-- ==== Sys2Proof/Word.lean ====
section
/-! DEFINITION. Word.lean: the two widths of this hardware (spec/00_scope.md rule R5).  Both are unsigned and their
arithmetic wraps (rules R7, R8), which is what `BitVec` gives. -/

namespace Sys2Proof

/-- `u8`: a data byte, a register, a memory byte (rules R5, R7). -/
abbrev Byte := BitVec 8

/-- `u16`: an address, PC, SP, a register-pair view (rules R5, R7). -/
abbrev Word := BitVec 16

end Sys2Proof
end

