-- ==== Sys2Proof/Syntax.lean ====
section
/-! DEFINITION. Syntax.lean: the operand selectors of spec/30_encoding.md and the instructions, one constructor for each
row of spec/opcode_table.json.  The functions after the inductive name the rows of one family by their operands, so that
a statement can speak of all of them at once. -/

namespace Sys2Proof

/-- The seven 8-bit data registers (rules R16, R18). -/
inductive Reg8 where
  | b | c | d | e | h | l | a
  deriving DecidableEq, Repr

/-- The 8-bit operand selector `r` (rules R14, R74): a register, or the byte in memory at `pair(HL)`. -/
inductive Opd8 where
  | reg (r : Reg8)
  | atHL
  deriving DecidableEq, Repr

/-- The 16-bit selector `rr` (rules R14, R75). -/
inductive Reg16 where
  | bc | de | hl | sp
  deriving DecidableEq, Repr

/-- The register-pair views (rule R11), which are also the selector `rr2` of PUSH and POP (rule R75). -/
inductive Pair where
  | bc | de | hl | af
  deriving DecidableEq, Repr

/-- The pairs `LD rr,d16` loads (rule R205). -/
inductive WordPair where
  | bc | de | hl
  deriving DecidableEq, Repr

/-- The memory operands of the loads and stores of A other than through HL (rules R206 to R209, R214 to R219): `(BC)`,
`(DE)`, `(C)`, `(a16)` and `(a8)`. -/
inductive MemOpd where
  | bc | de | c
  | abs (w : Word)
  | high (n : Byte)
  deriving DecidableEq, Repr

/-- Which way the HL forms `(HL+)` and `(HL-)` step HL (rules R210 to R213). -/
inductive HlStep where
  | inc | dec
  deriving DecidableEq, Repr

/-- The conditions of the conditional jumps, calls and returns (rules R76, R109); `always` has opcodes of its own. -/
inductive Cond where
  | nz | z | nc | c
  deriving DecidableEq, Repr

/-- The eight accumulator operations, in the order of their opcodes (rules R120 to R127). -/
inductive AluOp where
  | add | adc | sub | sbc | and | xor | or | cp
  deriving DecidableEq, Repr

/-- The eight extended rotates and shifts, in the order of field y (rule R77). -/
inductive RotOp where
  | rlc | rrc | rl | rr | sla | sra | swap | srl
  deriving DecidableEq, Repr

/-- The admission tiers of rule R4; `p` is the opcode table's own letter for the prefix row. -/
inductive Tier where
  | s | g | x | u | p
  deriving DecidableEq, Repr

/-- The instructions: ONE constructor for each row of the opcode table (rules R77, R78), named after the row,
with its immediate operand where it has one (rule R73).  `undefined` stands for the eleven undefined rows (rule R79)
and `prefixCB` for the row of the prefix byte (rule R77).  Rows with an operand come first: Lean's code generator
numbers at most 244 constructors that carry data. -/
inductive Instr where
  | ld_BC_d16 (w : Word)  -- LD BC,d16, R205
  | ld_B_d8 (v : Byte)  -- LD B,d8, R203
  | ld_at_a16_SP (w : Word)  -- LD (a16),SP, R243
  | ld_C_d8 (v : Byte)  -- LD C,d8, R203
  | ld_DE_d16 (w : Word)  -- LD DE,d16, R205
  | ld_D_d8 (v : Byte)  -- LD D,d8, R203
  | jr_e8 (e : Byte)  -- JR e8, R192
  | ld_E_d8 (v : Byte)  -- LD E,d8, R203
  | jr_NZ_e8 (e : Byte)  -- JR NZ,e8, R193
  | ld_HL_d16 (w : Word)  -- LD HL,d16, R205
  | ld_H_d8 (v : Byte)  -- LD H,d8, R203
  | jr_Z_e8 (e : Byte)  -- JR Z,e8, R193
  | ld_L_d8 (v : Byte)  -- LD L,d8, R203
  | jr_NC_e8 (e : Byte)  -- JR NC,e8, R193
  | ld_SP_d16 (w : Word)  -- LD SP,d16, R254
  | ld_atHL_d8 (v : Byte)  -- LD (HL),d8, R204
  | jr_C_e8 (e : Byte)  -- JR C,e8, R193
  | ld_A_d8 (v : Byte)  -- LD A,d8, R203
  | jp_NZ_a16 (w : Word)  -- JP NZ,a16, R191
  | jp_a16 (w : Word)  -- JP a16, R190
  | call_NZ_a16 (w : Word)  -- CALL NZ,a16, R257
  | add_A_d8 (v : Byte)  -- ADD A,d8, R244
  | jp_Z_a16 (w : Word)  -- JP Z,a16, R191
  | prefixCB (second : Byte)  -- (prefix CB), R77
  | call_Z_a16 (w : Word)  -- CALL Z,a16, R257
  | call_a16 (w : Word)  -- CALL a16, R256
  | adc_A_d8 (v : Byte)  -- ADC A,d8, R245
  | jp_NC_a16 (w : Word)  -- JP NC,a16, R191
  | undefined (b : Byte)  -- (undefined), R79
  | call_NC_a16 (w : Word)  -- CALL NC,a16, R257
  | sub_d8 (v : Byte)  -- SUB d8, R246
  | jp_C_a16 (w : Word)  -- JP C,a16, R191
  | call_C_a16 (w : Word)  -- CALL C,a16, R257
  | sbc_A_d8 (v : Byte)  -- SBC A,d8, R247
  | ldh_at_a8_A (n : Byte)  -- LDH (a8),A, R219
  | and_d8 (v : Byte)  -- AND d8, R248
  | add_SP_e8 (e : Byte)  -- ADD SP,e8, R261
  | ld_at_a16_A (w : Word)  -- LD (a16),A, R215
  | xor_d8 (v : Byte)  -- XOR d8, R249
  | ldh_A_at_a8 (n : Byte)  -- LDH A,(a8), R218
  | or_d8 (v : Byte)  -- OR d8, R250
  | ld_HL_SPplus_e8 (e : Byte)  -- LD HL,SP+e8, R262
  | ld_A_at_a16 (w : Word)  -- LD A,(a16), R214
  | cp_d8 (v : Byte)  -- CP d8, R251
  | nop  -- NOP, R242
  | ld_atBC_A  -- LD (BC),A, R208
  | inc_BC  -- INC BC, R142
  | inc_B  -- INC B, R140
  | dec_B  -- DEC B, R141
  | rlca  -- RLCA, R160
  | add_HL_BC  -- ADD HL,BC, R144
  | ld_A_atBC  -- LD A,(BC), R206
  | dec_BC  -- DEC BC, R143
  | inc_C  -- INC C, R140
  | dec_C  -- DEC C, R141
  | rrca  -- RRCA, R161
  | stop  -- STOP, R266
  | ld_atDE_A  -- LD (DE),A, R209
  | inc_DE  -- INC DE, R142
  | inc_D  -- INC D, R140
  | dec_D  -- DEC D, R141
  | rla  -- RLA, R162
  | add_HL_DE  -- ADD HL,DE, R144
  | ld_A_atDE  -- LD A,(DE), R207
  | dec_DE  -- DEC DE, R143
  | inc_E  -- INC E, R140
  | dec_E  -- DEC E, R141
  | rra  -- RRA, R163
  | ld_atHLinc_A  -- LD (HL+),A, R212
  | inc_HL  -- INC HL, R142
  | inc_H  -- INC H, R140
  | dec_H  -- DEC H, R141
  | daa  -- DAA, R255
  | add_HL_HL  -- ADD HL,HL, R144
  | ld_A_atHLinc  -- LD A,(HL+), R210
  | dec_HL  -- DEC HL, R143
  | inc_L  -- INC L, R140
  | dec_L  -- DEC L, R141
  | cpl  -- CPL, R152
  | ld_atHLdec_A  -- LD (HL-),A, R213
  | inc_SP  -- INC SP, R142
  | inc_atHL  -- INC (HL), R140
  | dec_atHL  -- DEC (HL), R141
  | scf  -- SCF, R151
  | add_HL_SP  -- ADD HL,SP, R144
  | ld_A_atHLdec  -- LD A,(HL-), R211
  | dec_SP  -- DEC SP, R143
  | inc_A  -- INC A, R140
  | dec_A  -- DEC A, R141
  | ccf  -- CCF, R150
  | ld_B_B  -- LD B,B, R200
  | ld_B_C  -- LD B,C, R200
  | ld_B_D  -- LD B,D, R200
  | ld_B_E  -- LD B,E, R200
  | ld_B_H  -- LD B,H, R200
  | ld_B_L  -- LD B,L, R200
  | ld_B_atHL  -- LD B,(HL), R201
  | ld_B_A  -- LD B,A, R200
  | ld_C_B  -- LD C,B, R200
  | ld_C_C  -- LD C,C, R200
  | ld_C_D  -- LD C,D, R200
  | ld_C_E  -- LD C,E, R200
  | ld_C_H  -- LD C,H, R200
  | ld_C_L  -- LD C,L, R200
  | ld_C_atHL  -- LD C,(HL), R201
  | ld_C_A  -- LD C,A, R200
  | ld_D_B  -- LD D,B, R200
  | ld_D_C  -- LD D,C, R200
  | ld_D_D  -- LD D,D, R200
  | ld_D_E  -- LD D,E, R200
  | ld_D_H  -- LD D,H, R200
  | ld_D_L  -- LD D,L, R200
  | ld_D_atHL  -- LD D,(HL), R201
  | ld_D_A  -- LD D,A, R200
  | ld_E_B  -- LD E,B, R200
  | ld_E_C  -- LD E,C, R200
  | ld_E_D  -- LD E,D, R200
  | ld_E_E  -- LD E,E, R200
  | ld_E_H  -- LD E,H, R200
  | ld_E_L  -- LD E,L, R200
  | ld_E_atHL  -- LD E,(HL), R201
  | ld_E_A  -- LD E,A, R200
  | ld_H_B  -- LD H,B, R200
  | ld_H_C  -- LD H,C, R200
  | ld_H_D  -- LD H,D, R200
  | ld_H_E  -- LD H,E, R200
  | ld_H_H  -- LD H,H, R200
  | ld_H_L  -- LD H,L, R200
  | ld_H_atHL  -- LD H,(HL), R201
  | ld_H_A  -- LD H,A, R200
  | ld_L_B  -- LD L,B, R200
  | ld_L_C  -- LD L,C, R200
  | ld_L_D  -- LD L,D, R200
  | ld_L_E  -- LD L,E, R200
  | ld_L_H  -- LD L,H, R200
  | ld_L_L  -- LD L,L, R200
  | ld_L_atHL  -- LD L,(HL), R201
  | ld_L_A  -- LD L,A, R200
  | ld_atHL_B  -- LD (HL),B, R202
  | ld_atHL_C  -- LD (HL),C, R202
  | ld_atHL_D  -- LD (HL),D, R202
  | ld_atHL_E  -- LD (HL),E, R202
  | ld_atHL_H  -- LD (HL),H, R202
  | ld_atHL_L  -- LD (HL),L, R202
  | halt  -- HALT, R265
  | ld_atHL_A  -- LD (HL),A, R202
  | ld_A_B  -- LD A,B, R200
  | ld_A_C  -- LD A,C, R200
  | ld_A_D  -- LD A,D, R200
  | ld_A_E  -- LD A,E, R200
  | ld_A_H  -- LD A,H, R200
  | ld_A_L  -- LD A,L, R200
  | ld_A_atHL  -- LD A,(HL), R201
  | ld_A_A  -- LD A,A, R200
  | add_A_B  -- ADD A,B, R120
  | add_A_C  -- ADD A,C, R120
  | add_A_D  -- ADD A,D, R120
  | add_A_E  -- ADD A,E, R120
  | add_A_H  -- ADD A,H, R120
  | add_A_L  -- ADD A,L, R120
  | add_A_atHL  -- ADD A,(HL), R120
  | add_A_A  -- ADD A,A, R120
  | adc_A_B  -- ADC A,B, R121
  | adc_A_C  -- ADC A,C, R121
  | adc_A_D  -- ADC A,D, R121
  | adc_A_E  -- ADC A,E, R121
  | adc_A_H  -- ADC A,H, R121
  | adc_A_L  -- ADC A,L, R121
  | adc_A_atHL  -- ADC A,(HL), R121
  | adc_A_A  -- ADC A,A, R121
  | sub_B  -- SUB B, R122
  | sub_C  -- SUB C, R122
  | sub_D  -- SUB D, R122
  | sub_E  -- SUB E, R122
  | sub_H  -- SUB H, R122
  | sub_L  -- SUB L, R122
  | sub_atHL  -- SUB (HL), R122
  | sub_A  -- SUB A, R122
  | sbc_A_B  -- SBC A,B, R123
  | sbc_A_C  -- SBC A,C, R123
  | sbc_A_D  -- SBC A,D, R123
  | sbc_A_E  -- SBC A,E, R123
  | sbc_A_H  -- SBC A,H, R123
  | sbc_A_L  -- SBC A,L, R123
  | sbc_A_atHL  -- SBC A,(HL), R123
  | sbc_A_A  -- SBC A,A, R123
  | and_B  -- AND B, R124
  | and_C  -- AND C, R124
  | and_D  -- AND D, R124
  | and_E  -- AND E, R124
  | and_H  -- AND H, R124
  | and_L  -- AND L, R124
  | and_atHL  -- AND (HL), R124
  | and_A  -- AND A, R124
  | xor_B  -- XOR B, R125
  | xor_C  -- XOR C, R125
  | xor_D  -- XOR D, R125
  | xor_E  -- XOR E, R125
  | xor_H  -- XOR H, R125
  | xor_L  -- XOR L, R125
  | xor_atHL  -- XOR (HL), R125
  | xor_A  -- XOR A, R125
  | or_B  -- OR B, R126
  | or_C  -- OR C, R126
  | or_D  -- OR D, R126
  | or_E  -- OR E, R126
  | or_H  -- OR H, R126
  | or_L  -- OR L, R126
  | or_atHL  -- OR (HL), R126
  | or_A  -- OR A, R126
  | cp_B  -- CP B, R127
  | cp_C  -- CP C, R127
  | cp_D  -- CP D, R127
  | cp_E  -- CP E, R127
  | cp_H  -- CP H, R127
  | cp_L  -- CP L, R127
  | cp_atHL  -- CP (HL), R127
  | cp_A  -- CP A, R127
  | ret_NZ  -- RET NZ, R260
  | pop_BC  -- POP BC, R253
  | push_BC  -- PUSH BC, R252
  | rst_00  -- RST 00H, R258
  | ret_Z  -- RET Z, R260
  | ret  -- RET, R259
  | rst_08  -- RST 08H, R258
  | ret_NC  -- RET NC, R260
  | pop_DE  -- POP DE, R253
  | push_DE  -- PUSH DE, R252
  | rst_10  -- RST 10H, R258
  | ret_C  -- RET C, R260
  | reti  -- RETI, R268
  | rst_18  -- RST 18H, R258
  | pop_HL  -- POP HL, R253
  | ld_atC_A  -- LD (C),A, R217
  | push_HL  -- PUSH HL, R252
  | rst_20  -- RST 20H, R258
  | jp_HL  -- JP HL, R194
  | rst_28  -- RST 28H, R258
  | pop_AF  -- POP AF, R253
  | ld_A_atC  -- LD A,(C), R216
  | di  -- DI, R264
  | push_AF  -- PUSH AF, R252
  | rst_30  -- RST 30H, R258
  | ld_SP_HL  -- LD SP,HL, R263
  | ei  -- EI, R267
  | rst_38  -- RST 38H, R258
  | rlc_B  -- RLC B, R164
  | rlc_C  -- RLC C, R164
  | rlc_D  -- RLC D, R164
  | rlc_E  -- RLC E, R164
  | rlc_H  -- RLC H, R164
  | rlc_L  -- RLC L, R164
  | rlc_atHL  -- RLC (HL), R164
  | rlc_A  -- RLC A, R164
  | rrc_B  -- RRC B, R165
  | rrc_C  -- RRC C, R165
  | rrc_D  -- RRC D, R165
  | rrc_E  -- RRC E, R165
  | rrc_H  -- RRC H, R165
  | rrc_L  -- RRC L, R165
  | rrc_atHL  -- RRC (HL), R165
  | rrc_A  -- RRC A, R165
  | rl_B  -- RL B, R166
  | rl_C  -- RL C, R166
  | rl_D  -- RL D, R166
  | rl_E  -- RL E, R166
  | rl_H  -- RL H, R166
  | rl_L  -- RL L, R166
  | rl_atHL  -- RL (HL), R166
  | rl_A  -- RL A, R166
  | rr_B  -- RR B, R167
  | rr_C  -- RR C, R167
  | rr_D  -- RR D, R167
  | rr_E  -- RR E, R167
  | rr_H  -- RR H, R167
  | rr_L  -- RR L, R167
  | rr_atHL  -- RR (HL), R167
  | rr_A  -- RR A, R167
  | sla_B  -- SLA B, R168
  | sla_C  -- SLA C, R168
  | sla_D  -- SLA D, R168
  | sla_E  -- SLA E, R168
  | sla_H  -- SLA H, R168
  | sla_L  -- SLA L, R168
  | sla_atHL  -- SLA (HL), R168
  | sla_A  -- SLA A, R168
  | sra_B  -- SRA B, R169
  | sra_C  -- SRA C, R169
  | sra_D  -- SRA D, R169
  | sra_E  -- SRA E, R169
  | sra_H  -- SRA H, R169
  | sra_L  -- SRA L, R169
  | sra_atHL  -- SRA (HL), R169
  | sra_A  -- SRA A, R169
  | swap_B  -- SWAP B, R170
  | swap_C  -- SWAP C, R170
  | swap_D  -- SWAP D, R170
  | swap_E  -- SWAP E, R170
  | swap_H  -- SWAP H, R170
  | swap_L  -- SWAP L, R170
  | swap_atHL  -- SWAP (HL), R170
  | swap_A  -- SWAP A, R170
  | srl_B  -- SRL B, R171
  | srl_C  -- SRL C, R171
  | srl_D  -- SRL D, R171
  | srl_E  -- SRL E, R171
  | srl_H  -- SRL H, R171
  | srl_L  -- SRL L, R171
  | srl_atHL  -- SRL (HL), R171
  | srl_A  -- SRL A, R171
  | bit_0_B  -- BIT 0,B, R180
  | bit_0_C  -- BIT 0,C, R180
  | bit_0_D  -- BIT 0,D, R180
  | bit_0_E  -- BIT 0,E, R180
  | bit_0_H  -- BIT 0,H, R180
  | bit_0_L  -- BIT 0,L, R180
  | bit_0_atHL  -- BIT 0,(HL), R180
  | bit_0_A  -- BIT 0,A, R180
  | bit_1_B  -- BIT 1,B, R180
  | bit_1_C  -- BIT 1,C, R180
  | bit_1_D  -- BIT 1,D, R180
  | bit_1_E  -- BIT 1,E, R180
  | bit_1_H  -- BIT 1,H, R180
  | bit_1_L  -- BIT 1,L, R180
  | bit_1_atHL  -- BIT 1,(HL), R180
  | bit_1_A  -- BIT 1,A, R180
  | bit_2_B  -- BIT 2,B, R180
  | bit_2_C  -- BIT 2,C, R180
  | bit_2_D  -- BIT 2,D, R180
  | bit_2_E  -- BIT 2,E, R180
  | bit_2_H  -- BIT 2,H, R180
  | bit_2_L  -- BIT 2,L, R180
  | bit_2_atHL  -- BIT 2,(HL), R180
  | bit_2_A  -- BIT 2,A, R180
  | bit_3_B  -- BIT 3,B, R180
  | bit_3_C  -- BIT 3,C, R180
  | bit_3_D  -- BIT 3,D, R180
  | bit_3_E  -- BIT 3,E, R180
  | bit_3_H  -- BIT 3,H, R180
  | bit_3_L  -- BIT 3,L, R180
  | bit_3_atHL  -- BIT 3,(HL), R180
  | bit_3_A  -- BIT 3,A, R180
  | bit_4_B  -- BIT 4,B, R180
  | bit_4_C  -- BIT 4,C, R180
  | bit_4_D  -- BIT 4,D, R180
  | bit_4_E  -- BIT 4,E, R180
  | bit_4_H  -- BIT 4,H, R180
  | bit_4_L  -- BIT 4,L, R180
  | bit_4_atHL  -- BIT 4,(HL), R180
  | bit_4_A  -- BIT 4,A, R180
  | bit_5_B  -- BIT 5,B, R180
  | bit_5_C  -- BIT 5,C, R180
  | bit_5_D  -- BIT 5,D, R180
  | bit_5_E  -- BIT 5,E, R180
  | bit_5_H  -- BIT 5,H, R180
  | bit_5_L  -- BIT 5,L, R180
  | bit_5_atHL  -- BIT 5,(HL), R180
  | bit_5_A  -- BIT 5,A, R180
  | bit_6_B  -- BIT 6,B, R180
  | bit_6_C  -- BIT 6,C, R180
  | bit_6_D  -- BIT 6,D, R180
  | bit_6_E  -- BIT 6,E, R180
  | bit_6_H  -- BIT 6,H, R180
  | bit_6_L  -- BIT 6,L, R180
  | bit_6_atHL  -- BIT 6,(HL), R180
  | bit_6_A  -- BIT 6,A, R180
  | bit_7_B  -- BIT 7,B, R180
  | bit_7_C  -- BIT 7,C, R180
  | bit_7_D  -- BIT 7,D, R180
  | bit_7_E  -- BIT 7,E, R180
  | bit_7_H  -- BIT 7,H, R180
  | bit_7_L  -- BIT 7,L, R180
  | bit_7_atHL  -- BIT 7,(HL), R180
  | bit_7_A  -- BIT 7,A, R180
  | res_0_B  -- RES 0,B, R181
  | res_0_C  -- RES 0,C, R181
  | res_0_D  -- RES 0,D, R181
  | res_0_E  -- RES 0,E, R181
  | res_0_H  -- RES 0,H, R181
  | res_0_L  -- RES 0,L, R181
  | res_0_atHL  -- RES 0,(HL), R181
  | res_0_A  -- RES 0,A, R181
  | res_1_B  -- RES 1,B, R181
  | res_1_C  -- RES 1,C, R181
  | res_1_D  -- RES 1,D, R181
  | res_1_E  -- RES 1,E, R181
  | res_1_H  -- RES 1,H, R181
  | res_1_L  -- RES 1,L, R181
  | res_1_atHL  -- RES 1,(HL), R181
  | res_1_A  -- RES 1,A, R181
  | res_2_B  -- RES 2,B, R181
  | res_2_C  -- RES 2,C, R181
  | res_2_D  -- RES 2,D, R181
  | res_2_E  -- RES 2,E, R181
  | res_2_H  -- RES 2,H, R181
  | res_2_L  -- RES 2,L, R181
  | res_2_atHL  -- RES 2,(HL), R181
  | res_2_A  -- RES 2,A, R181
  | res_3_B  -- RES 3,B, R181
  | res_3_C  -- RES 3,C, R181
  | res_3_D  -- RES 3,D, R181
  | res_3_E  -- RES 3,E, R181
  | res_3_H  -- RES 3,H, R181
  | res_3_L  -- RES 3,L, R181
  | res_3_atHL  -- RES 3,(HL), R181
  | res_3_A  -- RES 3,A, R181
  | res_4_B  -- RES 4,B, R181
  | res_4_C  -- RES 4,C, R181
  | res_4_D  -- RES 4,D, R181
  | res_4_E  -- RES 4,E, R181
  | res_4_H  -- RES 4,H, R181
  | res_4_L  -- RES 4,L, R181
  | res_4_atHL  -- RES 4,(HL), R181
  | res_4_A  -- RES 4,A, R181
  | res_5_B  -- RES 5,B, R181
  | res_5_C  -- RES 5,C, R181
  | res_5_D  -- RES 5,D, R181
  | res_5_E  -- RES 5,E, R181
  | res_5_H  -- RES 5,H, R181
  | res_5_L  -- RES 5,L, R181
  | res_5_atHL  -- RES 5,(HL), R181
  | res_5_A  -- RES 5,A, R181
  | res_6_B  -- RES 6,B, R181
  | res_6_C  -- RES 6,C, R181
  | res_6_D  -- RES 6,D, R181
  | res_6_E  -- RES 6,E, R181
  | res_6_H  -- RES 6,H, R181
  | res_6_L  -- RES 6,L, R181
  | res_6_atHL  -- RES 6,(HL), R181
  | res_6_A  -- RES 6,A, R181
  | res_7_B  -- RES 7,B, R181
  | res_7_C  -- RES 7,C, R181
  | res_7_D  -- RES 7,D, R181
  | res_7_E  -- RES 7,E, R181
  | res_7_H  -- RES 7,H, R181
  | res_7_L  -- RES 7,L, R181
  | res_7_atHL  -- RES 7,(HL), R181
  | res_7_A  -- RES 7,A, R181
  | set_0_B  -- SET 0,B, R182
  | set_0_C  -- SET 0,C, R182
  | set_0_D  -- SET 0,D, R182
  | set_0_E  -- SET 0,E, R182
  | set_0_H  -- SET 0,H, R182
  | set_0_L  -- SET 0,L, R182
  | set_0_atHL  -- SET 0,(HL), R182
  | set_0_A  -- SET 0,A, R182
  | set_1_B  -- SET 1,B, R182
  | set_1_C  -- SET 1,C, R182
  | set_1_D  -- SET 1,D, R182
  | set_1_E  -- SET 1,E, R182
  | set_1_H  -- SET 1,H, R182
  | set_1_L  -- SET 1,L, R182
  | set_1_atHL  -- SET 1,(HL), R182
  | set_1_A  -- SET 1,A, R182
  | set_2_B  -- SET 2,B, R182
  | set_2_C  -- SET 2,C, R182
  | set_2_D  -- SET 2,D, R182
  | set_2_E  -- SET 2,E, R182
  | set_2_H  -- SET 2,H, R182
  | set_2_L  -- SET 2,L, R182
  | set_2_atHL  -- SET 2,(HL), R182
  | set_2_A  -- SET 2,A, R182
  | set_3_B  -- SET 3,B, R182
  | set_3_C  -- SET 3,C, R182
  | set_3_D  -- SET 3,D, R182
  | set_3_E  -- SET 3,E, R182
  | set_3_H  -- SET 3,H, R182
  | set_3_L  -- SET 3,L, R182
  | set_3_atHL  -- SET 3,(HL), R182
  | set_3_A  -- SET 3,A, R182
  | set_4_B  -- SET 4,B, R182
  | set_4_C  -- SET 4,C, R182
  | set_4_D  -- SET 4,D, R182
  | set_4_E  -- SET 4,E, R182
  | set_4_H  -- SET 4,H, R182
  | set_4_L  -- SET 4,L, R182
  | set_4_atHL  -- SET 4,(HL), R182
  | set_4_A  -- SET 4,A, R182
  | set_5_B  -- SET 5,B, R182
  | set_5_C  -- SET 5,C, R182
  | set_5_D  -- SET 5,D, R182
  | set_5_E  -- SET 5,E, R182
  | set_5_H  -- SET 5,H, R182
  | set_5_L  -- SET 5,L, R182
  | set_5_atHL  -- SET 5,(HL), R182
  | set_5_A  -- SET 5,A, R182
  | set_6_B  -- SET 6,B, R182
  | set_6_C  -- SET 6,C, R182
  | set_6_D  -- SET 6,D, R182
  | set_6_E  -- SET 6,E, R182
  | set_6_H  -- SET 6,H, R182
  | set_6_L  -- SET 6,L, R182
  | set_6_atHL  -- SET 6,(HL), R182
  | set_6_A  -- SET 6,A, R182
  | set_7_B  -- SET 7,B, R182
  | set_7_C  -- SET 7,C, R182
  | set_7_D  -- SET 7,D, R182
  | set_7_E  -- SET 7,E, R182
  | set_7_H  -- SET 7,H, R182
  | set_7_L  -- SET 7,L, R182
  | set_7_atHL  -- SET 7,(HL), R182
  | set_7_A  -- SET 7,A, R182
  deriving DecidableEq, Repr

/-- The accumulator operation `op` with operand `r` (rules R120 to R127). -/
def Instr.aluReg : AluOp → Opd8 → Instr
  | .add, .reg .b => .add_A_B
  | .add, .reg .c => .add_A_C
  | .add, .reg .d => .add_A_D
  | .add, .reg .e => .add_A_E
  | .add, .reg .h => .add_A_H
  | .add, .reg .l => .add_A_L
  | .add, .atHL => .add_A_atHL
  | .add, .reg .a => .add_A_A
  | .adc, .reg .b => .adc_A_B
  | .adc, .reg .c => .adc_A_C
  | .adc, .reg .d => .adc_A_D
  | .adc, .reg .e => .adc_A_E
  | .adc, .reg .h => .adc_A_H
  | .adc, .reg .l => .adc_A_L
  | .adc, .atHL => .adc_A_atHL
  | .adc, .reg .a => .adc_A_A
  | .sub, .reg .b => .sub_B
  | .sub, .reg .c => .sub_C
  | .sub, .reg .d => .sub_D
  | .sub, .reg .e => .sub_E
  | .sub, .reg .h => .sub_H
  | .sub, .reg .l => .sub_L
  | .sub, .atHL => .sub_atHL
  | .sub, .reg .a => .sub_A
  | .sbc, .reg .b => .sbc_A_B
  | .sbc, .reg .c => .sbc_A_C
  | .sbc, .reg .d => .sbc_A_D
  | .sbc, .reg .e => .sbc_A_E
  | .sbc, .reg .h => .sbc_A_H
  | .sbc, .reg .l => .sbc_A_L
  | .sbc, .atHL => .sbc_A_atHL
  | .sbc, .reg .a => .sbc_A_A
  | .and, .reg .b => .and_B
  | .and, .reg .c => .and_C
  | .and, .reg .d => .and_D
  | .and, .reg .e => .and_E
  | .and, .reg .h => .and_H
  | .and, .reg .l => .and_L
  | .and, .atHL => .and_atHL
  | .and, .reg .a => .and_A
  | .xor, .reg .b => .xor_B
  | .xor, .reg .c => .xor_C
  | .xor, .reg .d => .xor_D
  | .xor, .reg .e => .xor_E
  | .xor, .reg .h => .xor_H
  | .xor, .reg .l => .xor_L
  | .xor, .atHL => .xor_atHL
  | .xor, .reg .a => .xor_A
  | .or, .reg .b => .or_B
  | .or, .reg .c => .or_C
  | .or, .reg .d => .or_D
  | .or, .reg .e => .or_E
  | .or, .reg .h => .or_H
  | .or, .reg .l => .or_L
  | .or, .atHL => .or_atHL
  | .or, .reg .a => .or_A
  | .cp, .reg .b => .cp_B
  | .cp, .reg .c => .cp_C
  | .cp, .reg .d => .cp_D
  | .cp, .reg .e => .cp_E
  | .cp, .reg .h => .cp_H
  | .cp, .reg .l => .cp_L
  | .cp, .atHL => .cp_atHL
  | .cp, .reg .a => .cp_A

/-- The accumulator operation `op` with an immediate byte (rules R244 to R251). -/
def Instr.aluImm : AluOp → Byte → Instr
  | .add, v => .add_A_d8 v
  | .adc, v => .adc_A_d8 v
  | .sub, v => .sub_d8 v
  | .sbc, v => .sbc_A_d8 v
  | .and, v => .and_d8 v
  | .xor, v => .xor_d8 v
  | .or, v => .or_d8 v
  | .cp, v => .cp_d8 v

/-- `INC r` (rule R140). -/
def Instr.incReg : Opd8 → Instr
  | .reg .b => .inc_B
  | .reg .c => .inc_C
  | .reg .d => .inc_D
  | .reg .e => .inc_E
  | .reg .h => .inc_H
  | .reg .l => .inc_L
  | .atHL => .inc_atHL
  | .reg .a => .inc_A

/-- `DEC r` (rule R141). -/
def Instr.decReg : Opd8 → Instr
  | .reg .b => .dec_B
  | .reg .c => .dec_C
  | .reg .d => .dec_D
  | .reg .e => .dec_E
  | .reg .h => .dec_H
  | .reg .l => .dec_L
  | .atHL => .dec_atHL
  | .reg .a => .dec_A

/-- `INC rr` (rule R142). -/
def Instr.incWide : Reg16 → Instr
  | .bc => .inc_BC
  | .de => .inc_DE
  | .hl => .inc_HL
  | .sp => .inc_SP

/-- `DEC rr` (rule R143). -/
def Instr.decWide : Reg16 → Instr
  | .bc => .dec_BC
  | .de => .dec_DE
  | .hl => .dec_HL
  | .sp => .dec_SP

/-- `ADD HL,rr` (rule R144). -/
def Instr.addHl : Reg16 → Instr
  | .bc => .add_HL_BC
  | .de => .add_HL_DE
  | .hl => .add_HL_HL
  | .sp => .add_HL_SP

/-- The extended rotate, shift or SWAP `op` with operand `r` (rules R164 to R171). -/
def Instr.rotate : RotOp → Opd8 → Instr
  | .rlc, .reg .b => .rlc_B
  | .rlc, .reg .c => .rlc_C
  | .rlc, .reg .d => .rlc_D
  | .rlc, .reg .e => .rlc_E
  | .rlc, .reg .h => .rlc_H
  | .rlc, .reg .l => .rlc_L
  | .rlc, .atHL => .rlc_atHL
  | .rlc, .reg .a => .rlc_A
  | .rrc, .reg .b => .rrc_B
  | .rrc, .reg .c => .rrc_C
  | .rrc, .reg .d => .rrc_D
  | .rrc, .reg .e => .rrc_E
  | .rrc, .reg .h => .rrc_H
  | .rrc, .reg .l => .rrc_L
  | .rrc, .atHL => .rrc_atHL
  | .rrc, .reg .a => .rrc_A
  | .rl, .reg .b => .rl_B
  | .rl, .reg .c => .rl_C
  | .rl, .reg .d => .rl_D
  | .rl, .reg .e => .rl_E
  | .rl, .reg .h => .rl_H
  | .rl, .reg .l => .rl_L
  | .rl, .atHL => .rl_atHL
  | .rl, .reg .a => .rl_A
  | .rr, .reg .b => .rr_B
  | .rr, .reg .c => .rr_C
  | .rr, .reg .d => .rr_D
  | .rr, .reg .e => .rr_E
  | .rr, .reg .h => .rr_H
  | .rr, .reg .l => .rr_L
  | .rr, .atHL => .rr_atHL
  | .rr, .reg .a => .rr_A
  | .sla, .reg .b => .sla_B
  | .sla, .reg .c => .sla_C
  | .sla, .reg .d => .sla_D
  | .sla, .reg .e => .sla_E
  | .sla, .reg .h => .sla_H
  | .sla, .reg .l => .sla_L
  | .sla, .atHL => .sla_atHL
  | .sla, .reg .a => .sla_A
  | .sra, .reg .b => .sra_B
  | .sra, .reg .c => .sra_C
  | .sra, .reg .d => .sra_D
  | .sra, .reg .e => .sra_E
  | .sra, .reg .h => .sra_H
  | .sra, .reg .l => .sra_L
  | .sra, .atHL => .sra_atHL
  | .sra, .reg .a => .sra_A
  | .swap, .reg .b => .swap_B
  | .swap, .reg .c => .swap_C
  | .swap, .reg .d => .swap_D
  | .swap, .reg .e => .swap_E
  | .swap, .reg .h => .swap_H
  | .swap, .reg .l => .swap_L
  | .swap, .atHL => .swap_atHL
  | .swap, .reg .a => .swap_A
  | .srl, .reg .b => .srl_B
  | .srl, .reg .c => .srl_C
  | .srl, .reg .d => .srl_D
  | .srl, .reg .e => .srl_E
  | .srl, .reg .h => .srl_H
  | .srl, .reg .l => .srl_L
  | .srl, .atHL => .srl_atHL
  | .srl, .reg .a => .srl_A

/-- `BIT b,r` (rule R180). -/
def Instr.bitTest : Fin 8 → Opd8 → Instr
  | 0, .reg .b => .bit_0_B
  | 0, .reg .c => .bit_0_C
  | 0, .reg .d => .bit_0_D
  | 0, .reg .e => .bit_0_E
  | 0, .reg .h => .bit_0_H
  | 0, .reg .l => .bit_0_L
  | 0, .atHL => .bit_0_atHL
  | 0, .reg .a => .bit_0_A
  | 1, .reg .b => .bit_1_B
  | 1, .reg .c => .bit_1_C
  | 1, .reg .d => .bit_1_D
  | 1, .reg .e => .bit_1_E
  | 1, .reg .h => .bit_1_H
  | 1, .reg .l => .bit_1_L
  | 1, .atHL => .bit_1_atHL
  | 1, .reg .a => .bit_1_A
  | 2, .reg .b => .bit_2_B
  | 2, .reg .c => .bit_2_C
  | 2, .reg .d => .bit_2_D
  | 2, .reg .e => .bit_2_E
  | 2, .reg .h => .bit_2_H
  | 2, .reg .l => .bit_2_L
  | 2, .atHL => .bit_2_atHL
  | 2, .reg .a => .bit_2_A
  | 3, .reg .b => .bit_3_B
  | 3, .reg .c => .bit_3_C
  | 3, .reg .d => .bit_3_D
  | 3, .reg .e => .bit_3_E
  | 3, .reg .h => .bit_3_H
  | 3, .reg .l => .bit_3_L
  | 3, .atHL => .bit_3_atHL
  | 3, .reg .a => .bit_3_A
  | 4, .reg .b => .bit_4_B
  | 4, .reg .c => .bit_4_C
  | 4, .reg .d => .bit_4_D
  | 4, .reg .e => .bit_4_E
  | 4, .reg .h => .bit_4_H
  | 4, .reg .l => .bit_4_L
  | 4, .atHL => .bit_4_atHL
  | 4, .reg .a => .bit_4_A
  | 5, .reg .b => .bit_5_B
  | 5, .reg .c => .bit_5_C
  | 5, .reg .d => .bit_5_D
  | 5, .reg .e => .bit_5_E
  | 5, .reg .h => .bit_5_H
  | 5, .reg .l => .bit_5_L
  | 5, .atHL => .bit_5_atHL
  | 5, .reg .a => .bit_5_A
  | 6, .reg .b => .bit_6_B
  | 6, .reg .c => .bit_6_C
  | 6, .reg .d => .bit_6_D
  | 6, .reg .e => .bit_6_E
  | 6, .reg .h => .bit_6_H
  | 6, .reg .l => .bit_6_L
  | 6, .atHL => .bit_6_atHL
  | 6, .reg .a => .bit_6_A
  | 7, .reg .b => .bit_7_B
  | 7, .reg .c => .bit_7_C
  | 7, .reg .d => .bit_7_D
  | 7, .reg .e => .bit_7_E
  | 7, .reg .h => .bit_7_H
  | 7, .reg .l => .bit_7_L
  | 7, .atHL => .bit_7_atHL
  | 7, .reg .a => .bit_7_A

/-- `RES b,r` (rule R181). -/
def Instr.bitRes : Fin 8 → Opd8 → Instr
  | 0, .reg .b => .res_0_B
  | 0, .reg .c => .res_0_C
  | 0, .reg .d => .res_0_D
  | 0, .reg .e => .res_0_E
  | 0, .reg .h => .res_0_H
  | 0, .reg .l => .res_0_L
  | 0, .atHL => .res_0_atHL
  | 0, .reg .a => .res_0_A
  | 1, .reg .b => .res_1_B
  | 1, .reg .c => .res_1_C
  | 1, .reg .d => .res_1_D
  | 1, .reg .e => .res_1_E
  | 1, .reg .h => .res_1_H
  | 1, .reg .l => .res_1_L
  | 1, .atHL => .res_1_atHL
  | 1, .reg .a => .res_1_A
  | 2, .reg .b => .res_2_B
  | 2, .reg .c => .res_2_C
  | 2, .reg .d => .res_2_D
  | 2, .reg .e => .res_2_E
  | 2, .reg .h => .res_2_H
  | 2, .reg .l => .res_2_L
  | 2, .atHL => .res_2_atHL
  | 2, .reg .a => .res_2_A
  | 3, .reg .b => .res_3_B
  | 3, .reg .c => .res_3_C
  | 3, .reg .d => .res_3_D
  | 3, .reg .e => .res_3_E
  | 3, .reg .h => .res_3_H
  | 3, .reg .l => .res_3_L
  | 3, .atHL => .res_3_atHL
  | 3, .reg .a => .res_3_A
  | 4, .reg .b => .res_4_B
  | 4, .reg .c => .res_4_C
  | 4, .reg .d => .res_4_D
  | 4, .reg .e => .res_4_E
  | 4, .reg .h => .res_4_H
  | 4, .reg .l => .res_4_L
  | 4, .atHL => .res_4_atHL
  | 4, .reg .a => .res_4_A
  | 5, .reg .b => .res_5_B
  | 5, .reg .c => .res_5_C
  | 5, .reg .d => .res_5_D
  | 5, .reg .e => .res_5_E
  | 5, .reg .h => .res_5_H
  | 5, .reg .l => .res_5_L
  | 5, .atHL => .res_5_atHL
  | 5, .reg .a => .res_5_A
  | 6, .reg .b => .res_6_B
  | 6, .reg .c => .res_6_C
  | 6, .reg .d => .res_6_D
  | 6, .reg .e => .res_6_E
  | 6, .reg .h => .res_6_H
  | 6, .reg .l => .res_6_L
  | 6, .atHL => .res_6_atHL
  | 6, .reg .a => .res_6_A
  | 7, .reg .b => .res_7_B
  | 7, .reg .c => .res_7_C
  | 7, .reg .d => .res_7_D
  | 7, .reg .e => .res_7_E
  | 7, .reg .h => .res_7_H
  | 7, .reg .l => .res_7_L
  | 7, .atHL => .res_7_atHL
  | 7, .reg .a => .res_7_A

/-- `SET b,r` (rule R182). -/
def Instr.bitSet : Fin 8 → Opd8 → Instr
  | 0, .reg .b => .set_0_B
  | 0, .reg .c => .set_0_C
  | 0, .reg .d => .set_0_D
  | 0, .reg .e => .set_0_E
  | 0, .reg .h => .set_0_H
  | 0, .reg .l => .set_0_L
  | 0, .atHL => .set_0_atHL
  | 0, .reg .a => .set_0_A
  | 1, .reg .b => .set_1_B
  | 1, .reg .c => .set_1_C
  | 1, .reg .d => .set_1_D
  | 1, .reg .e => .set_1_E
  | 1, .reg .h => .set_1_H
  | 1, .reg .l => .set_1_L
  | 1, .atHL => .set_1_atHL
  | 1, .reg .a => .set_1_A
  | 2, .reg .b => .set_2_B
  | 2, .reg .c => .set_2_C
  | 2, .reg .d => .set_2_D
  | 2, .reg .e => .set_2_E
  | 2, .reg .h => .set_2_H
  | 2, .reg .l => .set_2_L
  | 2, .atHL => .set_2_atHL
  | 2, .reg .a => .set_2_A
  | 3, .reg .b => .set_3_B
  | 3, .reg .c => .set_3_C
  | 3, .reg .d => .set_3_D
  | 3, .reg .e => .set_3_E
  | 3, .reg .h => .set_3_H
  | 3, .reg .l => .set_3_L
  | 3, .atHL => .set_3_atHL
  | 3, .reg .a => .set_3_A
  | 4, .reg .b => .set_4_B
  | 4, .reg .c => .set_4_C
  | 4, .reg .d => .set_4_D
  | 4, .reg .e => .set_4_E
  | 4, .reg .h => .set_4_H
  | 4, .reg .l => .set_4_L
  | 4, .atHL => .set_4_atHL
  | 4, .reg .a => .set_4_A
  | 5, .reg .b => .set_5_B
  | 5, .reg .c => .set_5_C
  | 5, .reg .d => .set_5_D
  | 5, .reg .e => .set_5_E
  | 5, .reg .h => .set_5_H
  | 5, .reg .l => .set_5_L
  | 5, .atHL => .set_5_atHL
  | 5, .reg .a => .set_5_A
  | 6, .reg .b => .set_6_B
  | 6, .reg .c => .set_6_C
  | 6, .reg .d => .set_6_D
  | 6, .reg .e => .set_6_E
  | 6, .reg .h => .set_6_H
  | 6, .reg .l => .set_6_L
  | 6, .atHL => .set_6_atHL
  | 6, .reg .a => .set_6_A
  | 7, .reg .b => .set_7_B
  | 7, .reg .c => .set_7_C
  | 7, .reg .d => .set_7_D
  | 7, .reg .e => .set_7_E
  | 7, .reg .h => .set_7_H
  | 7, .reg .l => .set_7_L
  | 7, .atHL => .set_7_atHL
  | 7, .reg .a => .set_7_A

/-- `LD r,r'`, destination first (rule R200). -/
def Instr.loadReg : Reg8 → Reg8 → Instr
  | .b, .b => .ld_B_B
  | .b, .c => .ld_B_C
  | .b, .d => .ld_B_D
  | .b, .e => .ld_B_E
  | .b, .h => .ld_B_H
  | .b, .l => .ld_B_L
  | .b, .a => .ld_B_A
  | .c, .b => .ld_C_B
  | .c, .c => .ld_C_C
  | .c, .d => .ld_C_D
  | .c, .e => .ld_C_E
  | .c, .h => .ld_C_H
  | .c, .l => .ld_C_L
  | .c, .a => .ld_C_A
  | .d, .b => .ld_D_B
  | .d, .c => .ld_D_C
  | .d, .d => .ld_D_D
  | .d, .e => .ld_D_E
  | .d, .h => .ld_D_H
  | .d, .l => .ld_D_L
  | .d, .a => .ld_D_A
  | .e, .b => .ld_E_B
  | .e, .c => .ld_E_C
  | .e, .d => .ld_E_D
  | .e, .e => .ld_E_E
  | .e, .h => .ld_E_H
  | .e, .l => .ld_E_L
  | .e, .a => .ld_E_A
  | .h, .b => .ld_H_B
  | .h, .c => .ld_H_C
  | .h, .d => .ld_H_D
  | .h, .e => .ld_H_E
  | .h, .h => .ld_H_H
  | .h, .l => .ld_H_L
  | .h, .a => .ld_H_A
  | .l, .b => .ld_L_B
  | .l, .c => .ld_L_C
  | .l, .d => .ld_L_D
  | .l, .e => .ld_L_E
  | .l, .h => .ld_L_H
  | .l, .l => .ld_L_L
  | .l, .a => .ld_L_A
  | .a, .b => .ld_A_B
  | .a, .c => .ld_A_C
  | .a, .d => .ld_A_D
  | .a, .e => .ld_A_E
  | .a, .h => .ld_A_H
  | .a, .l => .ld_A_L
  | .a, .a => .ld_A_A

/-- `LD r,(HL)` (rule R201). -/
def Instr.loadFromHl : Reg8 → Instr
  | .b => .ld_B_atHL
  | .c => .ld_C_atHL
  | .d => .ld_D_atHL
  | .e => .ld_E_atHL
  | .h => .ld_H_atHL
  | .l => .ld_L_atHL
  | .a => .ld_A_atHL

/-- `LD (HL),r` (rule R202). -/
def Instr.storeToHl : Reg8 → Instr
  | .b => .ld_atHL_B
  | .c => .ld_atHL_C
  | .d => .ld_atHL_D
  | .e => .ld_atHL_E
  | .h => .ld_atHL_H
  | .l => .ld_atHL_L
  | .a => .ld_atHL_A

/-- `LD r,d8` (rule R203). -/
def Instr.loadImm : Reg8 → Byte → Instr
  | .b, v => .ld_B_d8 v
  | .c, v => .ld_C_d8 v
  | .d, v => .ld_D_d8 v
  | .e, v => .ld_E_d8 v
  | .h, v => .ld_H_d8 v
  | .l, v => .ld_L_d8 v
  | .a, v => .ld_A_d8 v

/-- `LD rr,d16` for BC, DE, HL (rule R205). -/
def Instr.loadWord : WordPair → Word → Instr
  | .bc, w => .ld_BC_d16 w
  | .de, w => .ld_DE_d16 w
  | .hl, w => .ld_HL_d16 w

/-- `JP cc,a16` (rule R191). -/
def Instr.jumpIf : Cond → Word → Instr
  | .nz, w => .jp_NZ_a16 w
  | .z, w => .jp_Z_a16 w
  | .nc, w => .jp_NC_a16 w
  | .c, w => .jp_C_a16 w

/-- `JR cc,e8` (rule R193). -/
def Instr.jumpRelIf : Cond → Byte → Instr
  | .nz, e => .jr_NZ_e8 e
  | .z, e => .jr_Z_e8 e
  | .nc, e => .jr_NC_e8 e
  | .c, e => .jr_C_e8 e

/-- `PUSH rr2` (rule R252). -/
def Instr.pushPair : Pair → Instr
  | .bc => .push_BC
  | .de => .push_DE
  | .hl => .push_HL
  | .af => .push_AF

/-- `POP rr2` (rule R253). -/
def Instr.popPair : Pair → Instr
  | .bc => .pop_BC
  | .de => .pop_DE
  | .hl => .pop_HL
  | .af => .pop_AF

/-- `CALL cc,a16` (rule R257). -/
def Instr.callIf : Cond → Word → Instr
  | .nz, w => .call_NZ_a16 w
  | .z, w => .call_Z_a16 w
  | .nc, w => .call_NC_a16 w
  | .c, w => .call_C_a16 w

/-- `RET cc` (rule R260). -/
def Instr.retIf : Cond → Instr
  | .nz => .ret_NZ
  | .z => .ret_Z
  | .nc => .ret_NC
  | .c => .ret_C

/-- `RST 8*y` (rule R258). -/
def Instr.restart : Fin 8 → Instr
  | 0 => .rst_00
  | 1 => .rst_08
  | 2 => .rst_10
  | 3 => .rst_18
  | 4 => .rst_20
  | 5 => .rst_28
  | 6 => .rst_30
  | 7 => .rst_38

/-- `LD A,(BC)`, `LD A,(DE)`, `LD A,(C)`, `LD A,(a16)`, `LDH A,(a8)` (rules R206, R207, R216, R214, R218). -/
def Instr.loadA : MemOpd → Instr
  | .bc => .ld_A_atBC
  | .de => .ld_A_atDE
  | .c => .ld_A_atC
  | .abs w => .ld_A_at_a16 w
  | .high n => .ldh_A_at_a8 n

/-- `LD (BC),A`, `LD (DE),A`, `LD (C),A`, `LD (a16),A`, `LDH (a8),A` (rules R208, R209, R217, R215, R219). -/
def Instr.storeA : MemOpd → Instr
  | .bc => .ld_atBC_A
  | .de => .ld_atDE_A
  | .c => .ld_atC_A
  | .abs w => .ld_at_a16_A w
  | .high n => .ldh_at_a8_A n

/-- `LD A,(HL+)` and `LD A,(HL-)` (rules R210, R211). -/
def Instr.loadAStep : HlStep → Instr
  | .inc => .ld_A_atHLinc
  | .dec => .ld_A_atHLdec

/-- `LD (HL+),A` and `LD (HL-),A` (rules R212, R213). -/
def Instr.storeAStep : HlStep → Instr
  | .inc => .ld_atHLinc_A
  | .dec => .ld_atHLdec_A

end Sys2Proof
end

