-- ==== Sys2Proof/WellFormed.lean ====
section
/-! DEFINITION. WellFormed.lean: which terms of Instr are instructions of this hardware.  Every operand value of every
defined form is legal (spec/60_exceptions.md rule R301), so only the two special rows have a check. -/

namespace Sys2Proof

/-- The eleven undefined base-space bytes (rule R79). -/
def undefinedBytes : List Byte :=
  [0xD3, 0xDB, 0xDD, 0xE3, 0xE4, 0xEB, 0xEC, 0xED, 0xF4, 0xFC, 0xFD]

/-- `undefined` names one of the eleven undefined bytes (rule R79).  `prefixCB` is never well-formed: 0xCB "maps to the
extended state, not to an instruction" (rule R79), and what follows it decodes to the row of its second byte (rule R77). -/
def Instr.wellFormed : Instr → Bool
  | .undefined b => undefinedBytes.contains b
  | .prefixCB _ => false
  | _ => true

end Sys2Proof
end

