-- ==== Sys2Proof/Decode.lean ====
section
/-! DEFINITION. Decode.lean: bytes to instructions and back (spec/30_encoding.md).  The maps follow the tables of rules
R77 and R78, which "are the authority".  After the decoder, the encoder, and the bit-field helpers both use. -/

namespace Sys2Proof

/-- `hi:lo`, the 16-bit value of two bytes (rule R10). -/
def joinBytes (hi lo : Byte) : Word := hi ++ lo

/-- `w[15:8]` (rule R10). -/
def hi8 (w : Word) : Byte := w.extractLsb' 8 8

/-- `w[7:0]` (rule R10). -/
def lo8 (w : Word) : Byte := w.extractLsb' 0 8

/-- The prefix byte of the extended space (rule R77). -/
def prefixByte : Byte := 0xCB

/-- The first bytes of the instructions with one operand byte after the opcode (rule R81, length 2), but for the prefix
0xCB, whose second byte is an opcode, and STOP (0x10), whose second byte is not fetched (rules R241, R266). -/
def oneOperandByte : List Byte :=
  [0x06, 0x0E, 0x16, 0x18, 0x1E, 0x20, 0x26, 0x28, 0x2E, 0x30, 0x36, 0x38, 0x3E, 0xC6, 0xCE, 0xD6, 0xDE, 0xE0, 0xE6,
   0xE8, 0xEE, 0xF0, 0xF6, 0xF8, 0xFE]

/-- The first bytes of the instructions with two operand bytes after the opcode (rule R81, length 3). -/
def twoOperandBytes : List Byte :=
  [0x01, 0x08, 0x11, 0x21, 0x31, 0xC2, 0xC3, 0xC4, 0xCA, 0xCC, 0xCD, 0xD2, 0xD4, 0xDA, 0xDC, 0xEA, 0xFA]

/-- How many operand bytes follow the opcode byte `b0` of the base space (rules R73, R81). -/
def operandCount (b0 : Byte) : Nat :=
  if b0 ∈ twoOperandBytes then 2 else if b0 ∈ oneOperandByte then 1 else 0

/-- The tier-G bytes, in the order rule R240 lists them. -/
def tierGBytes : List Byte :=
  [0x00, 0x08, 0x27, 0x31, 0xF9, 0xC0, 0xC8, 0xD0, 0xD8, 0xC9, 0xC1, 0xD1, 0xE1, 0xF1, 0xC5, 0xD5, 0xE5, 0xF5, 0xC4,
   0xCC, 0xD4, 0xDC, 0xCD, 0xC7, 0xCF, 0xD7, 0xDF, 0xE7, 0xEF, 0xF7, 0xFF, 0xC6, 0xCE, 0xD6, 0xDE, 0xE6, 0xEE, 0xF6,
   0xFE, 0xE8, 0xF8, 0xF3]

/-- The tier-X bytes: HALT, STOP, EI, RETI (rule R241). -/
def tierXBytes : List Byte := [0x76, 0x10, 0xFB, 0xD9]

/-- The tier of the instructions whose first byte is `b0` (rules R4, R78); the extended space behind 0xCB is tier S
(rule R77). -/
def byteTier (b0 : Byte) : Tier :=
  if b0 ∈ tierGBytes then .g else if b0 ∈ tierXBytes then .x else if b0 ∈ undefinedBytes then .u else .s

/-- The base-space map of rule R78, one arm a byte; `lo` and `hi` are the operand bytes at offsets 1 and 2, taken up by
the rows that have them (rule R73).  The last arm is the byte 0xFF, since a byte is at most 255. -/
def decodeBase (b0 lo hi : Byte) : Instr :=
  match b0.toNat with
  | 0x00 => .nop
  | 0x01 => .ld_BC_d16 (joinBytes hi lo)
  | 0x02 => .ld_atBC_A
  | 0x03 => .inc_BC
  | 0x04 => .inc_B
  | 0x05 => .dec_B
  | 0x06 => .ld_B_d8 lo
  | 0x07 => .rlca
  | 0x08 => .ld_at_a16_SP (joinBytes hi lo)
  | 0x09 => .add_HL_BC
  | 0x0A => .ld_A_atBC
  | 0x0B => .dec_BC
  | 0x0C => .inc_C
  | 0x0D => .dec_C
  | 0x0E => .ld_C_d8 lo
  | 0x0F => .rrca
  | 0x10 => .stop
  | 0x11 => .ld_DE_d16 (joinBytes hi lo)
  | 0x12 => .ld_atDE_A
  | 0x13 => .inc_DE
  | 0x14 => .inc_D
  | 0x15 => .dec_D
  | 0x16 => .ld_D_d8 lo
  | 0x17 => .rla
  | 0x18 => .jr_e8 lo
  | 0x19 => .add_HL_DE
  | 0x1A => .ld_A_atDE
  | 0x1B => .dec_DE
  | 0x1C => .inc_E
  | 0x1D => .dec_E
  | 0x1E => .ld_E_d8 lo
  | 0x1F => .rra
  | 0x20 => .jr_NZ_e8 lo
  | 0x21 => .ld_HL_d16 (joinBytes hi lo)
  | 0x22 => .ld_atHLinc_A
  | 0x23 => .inc_HL
  | 0x24 => .inc_H
  | 0x25 => .dec_H
  | 0x26 => .ld_H_d8 lo
  | 0x27 => .daa
  | 0x28 => .jr_Z_e8 lo
  | 0x29 => .add_HL_HL
  | 0x2A => .ld_A_atHLinc
  | 0x2B => .dec_HL
  | 0x2C => .inc_L
  | 0x2D => .dec_L
  | 0x2E => .ld_L_d8 lo
  | 0x2F => .cpl
  | 0x30 => .jr_NC_e8 lo
  | 0x31 => .ld_SP_d16 (joinBytes hi lo)
  | 0x32 => .ld_atHLdec_A
  | 0x33 => .inc_SP
  | 0x34 => .inc_atHL
  | 0x35 => .dec_atHL
  | 0x36 => .ld_atHL_d8 lo
  | 0x37 => .scf
  | 0x38 => .jr_C_e8 lo
  | 0x39 => .add_HL_SP
  | 0x3A => .ld_A_atHLdec
  | 0x3B => .dec_SP
  | 0x3C => .inc_A
  | 0x3D => .dec_A
  | 0x3E => .ld_A_d8 lo
  | 0x3F => .ccf
  | 0x40 => .ld_B_B
  | 0x41 => .ld_B_C
  | 0x42 => .ld_B_D
  | 0x43 => .ld_B_E
  | 0x44 => .ld_B_H
  | 0x45 => .ld_B_L
  | 0x46 => .ld_B_atHL
  | 0x47 => .ld_B_A
  | 0x48 => .ld_C_B
  | 0x49 => .ld_C_C
  | 0x4A => .ld_C_D
  | 0x4B => .ld_C_E
  | 0x4C => .ld_C_H
  | 0x4D => .ld_C_L
  | 0x4E => .ld_C_atHL
  | 0x4F => .ld_C_A
  | 0x50 => .ld_D_B
  | 0x51 => .ld_D_C
  | 0x52 => .ld_D_D
  | 0x53 => .ld_D_E
  | 0x54 => .ld_D_H
  | 0x55 => .ld_D_L
  | 0x56 => .ld_D_atHL
  | 0x57 => .ld_D_A
  | 0x58 => .ld_E_B
  | 0x59 => .ld_E_C
  | 0x5A => .ld_E_D
  | 0x5B => .ld_E_E
  | 0x5C => .ld_E_H
  | 0x5D => .ld_E_L
  | 0x5E => .ld_E_atHL
  | 0x5F => .ld_E_A
  | 0x60 => .ld_H_B
  | 0x61 => .ld_H_C
  | 0x62 => .ld_H_D
  | 0x63 => .ld_H_E
  | 0x64 => .ld_H_H
  | 0x65 => .ld_H_L
  | 0x66 => .ld_H_atHL
  | 0x67 => .ld_H_A
  | 0x68 => .ld_L_B
  | 0x69 => .ld_L_C
  | 0x6A => .ld_L_D
  | 0x6B => .ld_L_E
  | 0x6C => .ld_L_H
  | 0x6D => .ld_L_L
  | 0x6E => .ld_L_atHL
  | 0x6F => .ld_L_A
  | 0x70 => .ld_atHL_B
  | 0x71 => .ld_atHL_C
  | 0x72 => .ld_atHL_D
  | 0x73 => .ld_atHL_E
  | 0x74 => .ld_atHL_H
  | 0x75 => .ld_atHL_L
  | 0x76 => .halt
  | 0x77 => .ld_atHL_A
  | 0x78 => .ld_A_B
  | 0x79 => .ld_A_C
  | 0x7A => .ld_A_D
  | 0x7B => .ld_A_E
  | 0x7C => .ld_A_H
  | 0x7D => .ld_A_L
  | 0x7E => .ld_A_atHL
  | 0x7F => .ld_A_A
  | 0x80 => .add_A_B
  | 0x81 => .add_A_C
  | 0x82 => .add_A_D
  | 0x83 => .add_A_E
  | 0x84 => .add_A_H
  | 0x85 => .add_A_L
  | 0x86 => .add_A_atHL
  | 0x87 => .add_A_A
  | 0x88 => .adc_A_B
  | 0x89 => .adc_A_C
  | 0x8A => .adc_A_D
  | 0x8B => .adc_A_E
  | 0x8C => .adc_A_H
  | 0x8D => .adc_A_L
  | 0x8E => .adc_A_atHL
  | 0x8F => .adc_A_A
  | 0x90 => .sub_B
  | 0x91 => .sub_C
  | 0x92 => .sub_D
  | 0x93 => .sub_E
  | 0x94 => .sub_H
  | 0x95 => .sub_L
  | 0x96 => .sub_atHL
  | 0x97 => .sub_A
  | 0x98 => .sbc_A_B
  | 0x99 => .sbc_A_C
  | 0x9A => .sbc_A_D
  | 0x9B => .sbc_A_E
  | 0x9C => .sbc_A_H
  | 0x9D => .sbc_A_L
  | 0x9E => .sbc_A_atHL
  | 0x9F => .sbc_A_A
  | 0xA0 => .and_B
  | 0xA1 => .and_C
  | 0xA2 => .and_D
  | 0xA3 => .and_E
  | 0xA4 => .and_H
  | 0xA5 => .and_L
  | 0xA6 => .and_atHL
  | 0xA7 => .and_A
  | 0xA8 => .xor_B
  | 0xA9 => .xor_C
  | 0xAA => .xor_D
  | 0xAB => .xor_E
  | 0xAC => .xor_H
  | 0xAD => .xor_L
  | 0xAE => .xor_atHL
  | 0xAF => .xor_A
  | 0xB0 => .or_B
  | 0xB1 => .or_C
  | 0xB2 => .or_D
  | 0xB3 => .or_E
  | 0xB4 => .or_H
  | 0xB5 => .or_L
  | 0xB6 => .or_atHL
  | 0xB7 => .or_A
  | 0xB8 => .cp_B
  | 0xB9 => .cp_C
  | 0xBA => .cp_D
  | 0xBB => .cp_E
  | 0xBC => .cp_H
  | 0xBD => .cp_L
  | 0xBE => .cp_atHL
  | 0xBF => .cp_A
  | 0xC0 => .ret_NZ
  | 0xC1 => .pop_BC
  | 0xC2 => .jp_NZ_a16 (joinBytes hi lo)
  | 0xC3 => .jp_a16 (joinBytes hi lo)
  | 0xC4 => .call_NZ_a16 (joinBytes hi lo)
  | 0xC5 => .push_BC
  | 0xC6 => .add_A_d8 lo
  | 0xC7 => .rst_00
  | 0xC8 => .ret_Z
  | 0xC9 => .ret
  | 0xCA => .jp_Z_a16 (joinBytes hi lo)
  | 0xCB => .prefixCB lo
  | 0xCC => .call_Z_a16 (joinBytes hi lo)
  | 0xCD => .call_a16 (joinBytes hi lo)
  | 0xCE => .adc_A_d8 lo
  | 0xCF => .rst_08
  | 0xD0 => .ret_NC
  | 0xD1 => .pop_DE
  | 0xD2 => .jp_NC_a16 (joinBytes hi lo)
  | 0xD3 => .undefined b0
  | 0xD4 => .call_NC_a16 (joinBytes hi lo)
  | 0xD5 => .push_DE
  | 0xD6 => .sub_d8 lo
  | 0xD7 => .rst_10
  | 0xD8 => .ret_C
  | 0xD9 => .reti
  | 0xDA => .jp_C_a16 (joinBytes hi lo)
  | 0xDB => .undefined b0
  | 0xDC => .call_C_a16 (joinBytes hi lo)
  | 0xDD => .undefined b0
  | 0xDE => .sbc_A_d8 lo
  | 0xDF => .rst_18
  | 0xE0 => .ldh_at_a8_A lo
  | 0xE1 => .pop_HL
  | 0xE2 => .ld_atC_A
  | 0xE3 => .undefined b0
  | 0xE4 => .undefined b0
  | 0xE5 => .push_HL
  | 0xE6 => .and_d8 lo
  | 0xE7 => .rst_20
  | 0xE8 => .add_SP_e8 lo
  | 0xE9 => .jp_HL
  | 0xEA => .ld_at_a16_A (joinBytes hi lo)
  | 0xEB => .undefined b0
  | 0xEC => .undefined b0
  | 0xED => .undefined b0
  | 0xEE => .xor_d8 lo
  | 0xEF => .rst_28
  | 0xF0 => .ldh_A_at_a8 lo
  | 0xF1 => .pop_AF
  | 0xF2 => .ld_A_atC
  | 0xF3 => .di
  | 0xF4 => .undefined b0
  | 0xF5 => .push_AF
  | 0xF6 => .or_d8 lo
  | 0xF7 => .rst_30
  | 0xF8 => .ld_HL_SPplus_e8 lo
  | 0xF9 => .ld_SP_HL
  | 0xFA => .ld_A_at_a16 (joinBytes hi lo)
  | 0xFB => .ei
  | 0xFC => .undefined b0
  | 0xFD => .undefined b0
  | 0xFE => .cp_d8 lo
  | _ => .rst_38

/-- The extended-space map of rule R77: every second byte after the prefix 0xCB is an instruction. -/
def decodeExtended (b1 : Byte) : Instr :=
  match b1.toNat with
  | 0x00 => .rlc_B
  | 0x01 => .rlc_C
  | 0x02 => .rlc_D
  | 0x03 => .rlc_E
  | 0x04 => .rlc_H
  | 0x05 => .rlc_L
  | 0x06 => .rlc_atHL
  | 0x07 => .rlc_A
  | 0x08 => .rrc_B
  | 0x09 => .rrc_C
  | 0x0A => .rrc_D
  | 0x0B => .rrc_E
  | 0x0C => .rrc_H
  | 0x0D => .rrc_L
  | 0x0E => .rrc_atHL
  | 0x0F => .rrc_A
  | 0x10 => .rl_B
  | 0x11 => .rl_C
  | 0x12 => .rl_D
  | 0x13 => .rl_E
  | 0x14 => .rl_H
  | 0x15 => .rl_L
  | 0x16 => .rl_atHL
  | 0x17 => .rl_A
  | 0x18 => .rr_B
  | 0x19 => .rr_C
  | 0x1A => .rr_D
  | 0x1B => .rr_E
  | 0x1C => .rr_H
  | 0x1D => .rr_L
  | 0x1E => .rr_atHL
  | 0x1F => .rr_A
  | 0x20 => .sla_B
  | 0x21 => .sla_C
  | 0x22 => .sla_D
  | 0x23 => .sla_E
  | 0x24 => .sla_H
  | 0x25 => .sla_L
  | 0x26 => .sla_atHL
  | 0x27 => .sla_A
  | 0x28 => .sra_B
  | 0x29 => .sra_C
  | 0x2A => .sra_D
  | 0x2B => .sra_E
  | 0x2C => .sra_H
  | 0x2D => .sra_L
  | 0x2E => .sra_atHL
  | 0x2F => .sra_A
  | 0x30 => .swap_B
  | 0x31 => .swap_C
  | 0x32 => .swap_D
  | 0x33 => .swap_E
  | 0x34 => .swap_H
  | 0x35 => .swap_L
  | 0x36 => .swap_atHL
  | 0x37 => .swap_A
  | 0x38 => .srl_B
  | 0x39 => .srl_C
  | 0x3A => .srl_D
  | 0x3B => .srl_E
  | 0x3C => .srl_H
  | 0x3D => .srl_L
  | 0x3E => .srl_atHL
  | 0x3F => .srl_A
  | 0x40 => .bit_0_B
  | 0x41 => .bit_0_C
  | 0x42 => .bit_0_D
  | 0x43 => .bit_0_E
  | 0x44 => .bit_0_H
  | 0x45 => .bit_0_L
  | 0x46 => .bit_0_atHL
  | 0x47 => .bit_0_A
  | 0x48 => .bit_1_B
  | 0x49 => .bit_1_C
  | 0x4A => .bit_1_D
  | 0x4B => .bit_1_E
  | 0x4C => .bit_1_H
  | 0x4D => .bit_1_L
  | 0x4E => .bit_1_atHL
  | 0x4F => .bit_1_A
  | 0x50 => .bit_2_B
  | 0x51 => .bit_2_C
  | 0x52 => .bit_2_D
  | 0x53 => .bit_2_E
  | 0x54 => .bit_2_H
  | 0x55 => .bit_2_L
  | 0x56 => .bit_2_atHL
  | 0x57 => .bit_2_A
  | 0x58 => .bit_3_B
  | 0x59 => .bit_3_C
  | 0x5A => .bit_3_D
  | 0x5B => .bit_3_E
  | 0x5C => .bit_3_H
  | 0x5D => .bit_3_L
  | 0x5E => .bit_3_atHL
  | 0x5F => .bit_3_A
  | 0x60 => .bit_4_B
  | 0x61 => .bit_4_C
  | 0x62 => .bit_4_D
  | 0x63 => .bit_4_E
  | 0x64 => .bit_4_H
  | 0x65 => .bit_4_L
  | 0x66 => .bit_4_atHL
  | 0x67 => .bit_4_A
  | 0x68 => .bit_5_B
  | 0x69 => .bit_5_C
  | 0x6A => .bit_5_D
  | 0x6B => .bit_5_E
  | 0x6C => .bit_5_H
  | 0x6D => .bit_5_L
  | 0x6E => .bit_5_atHL
  | 0x6F => .bit_5_A
  | 0x70 => .bit_6_B
  | 0x71 => .bit_6_C
  | 0x72 => .bit_6_D
  | 0x73 => .bit_6_E
  | 0x74 => .bit_6_H
  | 0x75 => .bit_6_L
  | 0x76 => .bit_6_atHL
  | 0x77 => .bit_6_A
  | 0x78 => .bit_7_B
  | 0x79 => .bit_7_C
  | 0x7A => .bit_7_D
  | 0x7B => .bit_7_E
  | 0x7C => .bit_7_H
  | 0x7D => .bit_7_L
  | 0x7E => .bit_7_atHL
  | 0x7F => .bit_7_A
  | 0x80 => .res_0_B
  | 0x81 => .res_0_C
  | 0x82 => .res_0_D
  | 0x83 => .res_0_E
  | 0x84 => .res_0_H
  | 0x85 => .res_0_L
  | 0x86 => .res_0_atHL
  | 0x87 => .res_0_A
  | 0x88 => .res_1_B
  | 0x89 => .res_1_C
  | 0x8A => .res_1_D
  | 0x8B => .res_1_E
  | 0x8C => .res_1_H
  | 0x8D => .res_1_L
  | 0x8E => .res_1_atHL
  | 0x8F => .res_1_A
  | 0x90 => .res_2_B
  | 0x91 => .res_2_C
  | 0x92 => .res_2_D
  | 0x93 => .res_2_E
  | 0x94 => .res_2_H
  | 0x95 => .res_2_L
  | 0x96 => .res_2_atHL
  | 0x97 => .res_2_A
  | 0x98 => .res_3_B
  | 0x99 => .res_3_C
  | 0x9A => .res_3_D
  | 0x9B => .res_3_E
  | 0x9C => .res_3_H
  | 0x9D => .res_3_L
  | 0x9E => .res_3_atHL
  | 0x9F => .res_3_A
  | 0xA0 => .res_4_B
  | 0xA1 => .res_4_C
  | 0xA2 => .res_4_D
  | 0xA3 => .res_4_E
  | 0xA4 => .res_4_H
  | 0xA5 => .res_4_L
  | 0xA6 => .res_4_atHL
  | 0xA7 => .res_4_A
  | 0xA8 => .res_5_B
  | 0xA9 => .res_5_C
  | 0xAA => .res_5_D
  | 0xAB => .res_5_E
  | 0xAC => .res_5_H
  | 0xAD => .res_5_L
  | 0xAE => .res_5_atHL
  | 0xAF => .res_5_A
  | 0xB0 => .res_6_B
  | 0xB1 => .res_6_C
  | 0xB2 => .res_6_D
  | 0xB3 => .res_6_E
  | 0xB4 => .res_6_H
  | 0xB5 => .res_6_L
  | 0xB6 => .res_6_atHL
  | 0xB7 => .res_6_A
  | 0xB8 => .res_7_B
  | 0xB9 => .res_7_C
  | 0xBA => .res_7_D
  | 0xBB => .res_7_E
  | 0xBC => .res_7_H
  | 0xBD => .res_7_L
  | 0xBE => .res_7_atHL
  | 0xBF => .res_7_A
  | 0xC0 => .set_0_B
  | 0xC1 => .set_0_C
  | 0xC2 => .set_0_D
  | 0xC3 => .set_0_E
  | 0xC4 => .set_0_H
  | 0xC5 => .set_0_L
  | 0xC6 => .set_0_atHL
  | 0xC7 => .set_0_A
  | 0xC8 => .set_1_B
  | 0xC9 => .set_1_C
  | 0xCA => .set_1_D
  | 0xCB => .set_1_E
  | 0xCC => .set_1_H
  | 0xCD => .set_1_L
  | 0xCE => .set_1_atHL
  | 0xCF => .set_1_A
  | 0xD0 => .set_2_B
  | 0xD1 => .set_2_C
  | 0xD2 => .set_2_D
  | 0xD3 => .set_2_E
  | 0xD4 => .set_2_H
  | 0xD5 => .set_2_L
  | 0xD6 => .set_2_atHL
  | 0xD7 => .set_2_A
  | 0xD8 => .set_3_B
  | 0xD9 => .set_3_C
  | 0xDA => .set_3_D
  | 0xDB => .set_3_E
  | 0xDC => .set_3_H
  | 0xDD => .set_3_L
  | 0xDE => .set_3_atHL
  | 0xDF => .set_3_A
  | 0xE0 => .set_4_B
  | 0xE1 => .set_4_C
  | 0xE2 => .set_4_D
  | 0xE3 => .set_4_E
  | 0xE4 => .set_4_H
  | 0xE5 => .set_4_L
  | 0xE6 => .set_4_atHL
  | 0xE7 => .set_4_A
  | 0xE8 => .set_5_B
  | 0xE9 => .set_5_C
  | 0xEA => .set_5_D
  | 0xEB => .set_5_E
  | 0xEC => .set_5_H
  | 0xED => .set_5_L
  | 0xEE => .set_5_atHL
  | 0xEF => .set_5_A
  | 0xF0 => .set_6_B
  | 0xF1 => .set_6_C
  | 0xF2 => .set_6_D
  | 0xF3 => .set_6_E
  | 0xF4 => .set_6_H
  | 0xF5 => .set_6_L
  | 0xF6 => .set_6_atHL
  | 0xF7 => .set_6_A
  | 0xF8 => .set_7_B
  | 0xF9 => .set_7_C
  | 0xFA => .set_7_D
  | 0xFB => .set_7_E
  | 0xFC => .set_7_H
  | 0xFD => .set_7_L
  | 0xFE => .set_7_atHL
  | _ => .set_7_A

/-- What the decoder answers on a list of bytes: an instruction and the bytes after it, or the one rejection there is. -/
inductive Decoded where
  | instr (i : Instr) (rest : List Byte)
  | truncated          -- the bytes end before the instruction does
  deriving DecidableEq, Repr

/-- The decode function of rule R80, total on any bytes.  An undefined opcode byte decodes to `Instr.undefined`, whose
meaning is the decode failure of rule R79. -/
def decode : List Byte → Decoded
  | [] => .truncated
  | b0 :: rest =>
    if b0 = prefixByte then
      match rest with
      | [] => .truncated
      | b1 :: rest => .instr (decodeExtended b1) rest
    else
      match operandCount b0, rest with
      | 0, rest => .instr (decodeBase b0 0 0) rest
      | 1, lo :: rest => .instr (decodeBase b0 lo 0) rest
      | 2, lo :: hi :: rest => .instr (decodeBase b0 lo hi) rest
      | _, _ => .truncated

/-- The encoder, from the same tables (rules R72, R77, R78): the bytes of an instruction in fetch order, a 16-bit operand
low byte first (rules R53, R73).  STOP's second byte is never fetched (rule R266) and is not among them. -/
def encode : Instr → List Byte
  | .ld_BC_d16 w => [0x01, lo8 w, hi8 w]
  | .ld_B_d8 v => [0x06, v]
  | .ld_at_a16_SP w => [0x08, lo8 w, hi8 w]
  | .ld_C_d8 v => [0x0E, v]
  | .ld_DE_d16 w => [0x11, lo8 w, hi8 w]
  | .ld_D_d8 v => [0x16, v]
  | .jr_e8 e => [0x18, e]
  | .ld_E_d8 v => [0x1E, v]
  | .jr_NZ_e8 e => [0x20, e]
  | .ld_HL_d16 w => [0x21, lo8 w, hi8 w]
  | .ld_H_d8 v => [0x26, v]
  | .jr_Z_e8 e => [0x28, e]
  | .ld_L_d8 v => [0x2E, v]
  | .jr_NC_e8 e => [0x30, e]
  | .ld_SP_d16 w => [0x31, lo8 w, hi8 w]
  | .ld_atHL_d8 v => [0x36, v]
  | .jr_C_e8 e => [0x38, e]
  | .ld_A_d8 v => [0x3E, v]
  | .jp_NZ_a16 w => [0xC2, lo8 w, hi8 w]
  | .jp_a16 w => [0xC3, lo8 w, hi8 w]
  | .call_NZ_a16 w => [0xC4, lo8 w, hi8 w]
  | .add_A_d8 v => [0xC6, v]
  | .jp_Z_a16 w => [0xCA, lo8 w, hi8 w]
  | .prefixCB second => [0xCB, second]
  | .call_Z_a16 w => [0xCC, lo8 w, hi8 w]
  | .call_a16 w => [0xCD, lo8 w, hi8 w]
  | .adc_A_d8 v => [0xCE, v]
  | .jp_NC_a16 w => [0xD2, lo8 w, hi8 w]
  | .undefined b => [b]
  | .call_NC_a16 w => [0xD4, lo8 w, hi8 w]
  | .sub_d8 v => [0xD6, v]
  | .jp_C_a16 w => [0xDA, lo8 w, hi8 w]
  | .call_C_a16 w => [0xDC, lo8 w, hi8 w]
  | .sbc_A_d8 v => [0xDE, v]
  | .ldh_at_a8_A n => [0xE0, n]
  | .and_d8 v => [0xE6, v]
  | .add_SP_e8 e => [0xE8, e]
  | .ld_at_a16_A w => [0xEA, lo8 w, hi8 w]
  | .xor_d8 v => [0xEE, v]
  | .ldh_A_at_a8 n => [0xF0, n]
  | .or_d8 v => [0xF6, v]
  | .ld_HL_SPplus_e8 e => [0xF8, e]
  | .ld_A_at_a16 w => [0xFA, lo8 w, hi8 w]
  | .cp_d8 v => [0xFE, v]
  | .nop => [0x00]
  | .ld_atBC_A => [0x02]
  | .inc_BC => [0x03]
  | .inc_B => [0x04]
  | .dec_B => [0x05]
  | .rlca => [0x07]
  | .add_HL_BC => [0x09]
  | .ld_A_atBC => [0x0A]
  | .dec_BC => [0x0B]
  | .inc_C => [0x0C]
  | .dec_C => [0x0D]
  | .rrca => [0x0F]
  | .stop => [0x10]
  | .ld_atDE_A => [0x12]
  | .inc_DE => [0x13]
  | .inc_D => [0x14]
  | .dec_D => [0x15]
  | .rla => [0x17]
  | .add_HL_DE => [0x19]
  | .ld_A_atDE => [0x1A]
  | .dec_DE => [0x1B]
  | .inc_E => [0x1C]
  | .dec_E => [0x1D]
  | .rra => [0x1F]
  | .ld_atHLinc_A => [0x22]
  | .inc_HL => [0x23]
  | .inc_H => [0x24]
  | .dec_H => [0x25]
  | .daa => [0x27]
  | .add_HL_HL => [0x29]
  | .ld_A_atHLinc => [0x2A]
  | .dec_HL => [0x2B]
  | .inc_L => [0x2C]
  | .dec_L => [0x2D]
  | .cpl => [0x2F]
  | .ld_atHLdec_A => [0x32]
  | .inc_SP => [0x33]
  | .inc_atHL => [0x34]
  | .dec_atHL => [0x35]
  | .scf => [0x37]
  | .add_HL_SP => [0x39]
  | .ld_A_atHLdec => [0x3A]
  | .dec_SP => [0x3B]
  | .inc_A => [0x3C]
  | .dec_A => [0x3D]
  | .ccf => [0x3F]
  | .ld_B_B => [0x40]
  | .ld_B_C => [0x41]
  | .ld_B_D => [0x42]
  | .ld_B_E => [0x43]
  | .ld_B_H => [0x44]
  | .ld_B_L => [0x45]
  | .ld_B_atHL => [0x46]
  | .ld_B_A => [0x47]
  | .ld_C_B => [0x48]
  | .ld_C_C => [0x49]
  | .ld_C_D => [0x4A]
  | .ld_C_E => [0x4B]
  | .ld_C_H => [0x4C]
  | .ld_C_L => [0x4D]
  | .ld_C_atHL => [0x4E]
  | .ld_C_A => [0x4F]
  | .ld_D_B => [0x50]
  | .ld_D_C => [0x51]
  | .ld_D_D => [0x52]
  | .ld_D_E => [0x53]
  | .ld_D_H => [0x54]
  | .ld_D_L => [0x55]
  | .ld_D_atHL => [0x56]
  | .ld_D_A => [0x57]
  | .ld_E_B => [0x58]
  | .ld_E_C => [0x59]
  | .ld_E_D => [0x5A]
  | .ld_E_E => [0x5B]
  | .ld_E_H => [0x5C]
  | .ld_E_L => [0x5D]
  | .ld_E_atHL => [0x5E]
  | .ld_E_A => [0x5F]
  | .ld_H_B => [0x60]
  | .ld_H_C => [0x61]
  | .ld_H_D => [0x62]
  | .ld_H_E => [0x63]
  | .ld_H_H => [0x64]
  | .ld_H_L => [0x65]
  | .ld_H_atHL => [0x66]
  | .ld_H_A => [0x67]
  | .ld_L_B => [0x68]
  | .ld_L_C => [0x69]
  | .ld_L_D => [0x6A]
  | .ld_L_E => [0x6B]
  | .ld_L_H => [0x6C]
  | .ld_L_L => [0x6D]
  | .ld_L_atHL => [0x6E]
  | .ld_L_A => [0x6F]
  | .ld_atHL_B => [0x70]
  | .ld_atHL_C => [0x71]
  | .ld_atHL_D => [0x72]
  | .ld_atHL_E => [0x73]
  | .ld_atHL_H => [0x74]
  | .ld_atHL_L => [0x75]
  | .halt => [0x76]
  | .ld_atHL_A => [0x77]
  | .ld_A_B => [0x78]
  | .ld_A_C => [0x79]
  | .ld_A_D => [0x7A]
  | .ld_A_E => [0x7B]
  | .ld_A_H => [0x7C]
  | .ld_A_L => [0x7D]
  | .ld_A_atHL => [0x7E]
  | .ld_A_A => [0x7F]
  | .add_A_B => [0x80]
  | .add_A_C => [0x81]
  | .add_A_D => [0x82]
  | .add_A_E => [0x83]
  | .add_A_H => [0x84]
  | .add_A_L => [0x85]
  | .add_A_atHL => [0x86]
  | .add_A_A => [0x87]
  | .adc_A_B => [0x88]
  | .adc_A_C => [0x89]
  | .adc_A_D => [0x8A]
  | .adc_A_E => [0x8B]
  | .adc_A_H => [0x8C]
  | .adc_A_L => [0x8D]
  | .adc_A_atHL => [0x8E]
  | .adc_A_A => [0x8F]
  | .sub_B => [0x90]
  | .sub_C => [0x91]
  | .sub_D => [0x92]
  | .sub_E => [0x93]
  | .sub_H => [0x94]
  | .sub_L => [0x95]
  | .sub_atHL => [0x96]
  | .sub_A => [0x97]
  | .sbc_A_B => [0x98]
  | .sbc_A_C => [0x99]
  | .sbc_A_D => [0x9A]
  | .sbc_A_E => [0x9B]
  | .sbc_A_H => [0x9C]
  | .sbc_A_L => [0x9D]
  | .sbc_A_atHL => [0x9E]
  | .sbc_A_A => [0x9F]
  | .and_B => [0xA0]
  | .and_C => [0xA1]
  | .and_D => [0xA2]
  | .and_E => [0xA3]
  | .and_H => [0xA4]
  | .and_L => [0xA5]
  | .and_atHL => [0xA6]
  | .and_A => [0xA7]
  | .xor_B => [0xA8]
  | .xor_C => [0xA9]
  | .xor_D => [0xAA]
  | .xor_E => [0xAB]
  | .xor_H => [0xAC]
  | .xor_L => [0xAD]
  | .xor_atHL => [0xAE]
  | .xor_A => [0xAF]
  | .or_B => [0xB0]
  | .or_C => [0xB1]
  | .or_D => [0xB2]
  | .or_E => [0xB3]
  | .or_H => [0xB4]
  | .or_L => [0xB5]
  | .or_atHL => [0xB6]
  | .or_A => [0xB7]
  | .cp_B => [0xB8]
  | .cp_C => [0xB9]
  | .cp_D => [0xBA]
  | .cp_E => [0xBB]
  | .cp_H => [0xBC]
  | .cp_L => [0xBD]
  | .cp_atHL => [0xBE]
  | .cp_A => [0xBF]
  | .ret_NZ => [0xC0]
  | .pop_BC => [0xC1]
  | .push_BC => [0xC5]
  | .rst_00 => [0xC7]
  | .ret_Z => [0xC8]
  | .ret => [0xC9]
  | .rst_08 => [0xCF]
  | .ret_NC => [0xD0]
  | .pop_DE => [0xD1]
  | .push_DE => [0xD5]
  | .rst_10 => [0xD7]
  | .ret_C => [0xD8]
  | .reti => [0xD9]
  | .rst_18 => [0xDF]
  | .pop_HL => [0xE1]
  | .ld_atC_A => [0xE2]
  | .push_HL => [0xE5]
  | .rst_20 => [0xE7]
  | .jp_HL => [0xE9]
  | .rst_28 => [0xEF]
  | .pop_AF => [0xF1]
  | .ld_A_atC => [0xF2]
  | .di => [0xF3]
  | .push_AF => [0xF5]
  | .rst_30 => [0xF7]
  | .ld_SP_HL => [0xF9]
  | .ei => [0xFB]
  | .rst_38 => [0xFF]
  | .rlc_B => [0xCB, 0x00]
  | .rlc_C => [0xCB, 0x01]
  | .rlc_D => [0xCB, 0x02]
  | .rlc_E => [0xCB, 0x03]
  | .rlc_H => [0xCB, 0x04]
  | .rlc_L => [0xCB, 0x05]
  | .rlc_atHL => [0xCB, 0x06]
  | .rlc_A => [0xCB, 0x07]
  | .rrc_B => [0xCB, 0x08]
  | .rrc_C => [0xCB, 0x09]
  | .rrc_D => [0xCB, 0x0A]
  | .rrc_E => [0xCB, 0x0B]
  | .rrc_H => [0xCB, 0x0C]
  | .rrc_L => [0xCB, 0x0D]
  | .rrc_atHL => [0xCB, 0x0E]
  | .rrc_A => [0xCB, 0x0F]
  | .rl_B => [0xCB, 0x10]
  | .rl_C => [0xCB, 0x11]
  | .rl_D => [0xCB, 0x12]
  | .rl_E => [0xCB, 0x13]
  | .rl_H => [0xCB, 0x14]
  | .rl_L => [0xCB, 0x15]
  | .rl_atHL => [0xCB, 0x16]
  | .rl_A => [0xCB, 0x17]
  | .rr_B => [0xCB, 0x18]
  | .rr_C => [0xCB, 0x19]
  | .rr_D => [0xCB, 0x1A]
  | .rr_E => [0xCB, 0x1B]
  | .rr_H => [0xCB, 0x1C]
  | .rr_L => [0xCB, 0x1D]
  | .rr_atHL => [0xCB, 0x1E]
  | .rr_A => [0xCB, 0x1F]
  | .sla_B => [0xCB, 0x20]
  | .sla_C => [0xCB, 0x21]
  | .sla_D => [0xCB, 0x22]
  | .sla_E => [0xCB, 0x23]
  | .sla_H => [0xCB, 0x24]
  | .sla_L => [0xCB, 0x25]
  | .sla_atHL => [0xCB, 0x26]
  | .sla_A => [0xCB, 0x27]
  | .sra_B => [0xCB, 0x28]
  | .sra_C => [0xCB, 0x29]
  | .sra_D => [0xCB, 0x2A]
  | .sra_E => [0xCB, 0x2B]
  | .sra_H => [0xCB, 0x2C]
  | .sra_L => [0xCB, 0x2D]
  | .sra_atHL => [0xCB, 0x2E]
  | .sra_A => [0xCB, 0x2F]
  | .swap_B => [0xCB, 0x30]
  | .swap_C => [0xCB, 0x31]
  | .swap_D => [0xCB, 0x32]
  | .swap_E => [0xCB, 0x33]
  | .swap_H => [0xCB, 0x34]
  | .swap_L => [0xCB, 0x35]
  | .swap_atHL => [0xCB, 0x36]
  | .swap_A => [0xCB, 0x37]
  | .srl_B => [0xCB, 0x38]
  | .srl_C => [0xCB, 0x39]
  | .srl_D => [0xCB, 0x3A]
  | .srl_E => [0xCB, 0x3B]
  | .srl_H => [0xCB, 0x3C]
  | .srl_L => [0xCB, 0x3D]
  | .srl_atHL => [0xCB, 0x3E]
  | .srl_A => [0xCB, 0x3F]
  | .bit_0_B => [0xCB, 0x40]
  | .bit_0_C => [0xCB, 0x41]
  | .bit_0_D => [0xCB, 0x42]
  | .bit_0_E => [0xCB, 0x43]
  | .bit_0_H => [0xCB, 0x44]
  | .bit_0_L => [0xCB, 0x45]
  | .bit_0_atHL => [0xCB, 0x46]
  | .bit_0_A => [0xCB, 0x47]
  | .bit_1_B => [0xCB, 0x48]
  | .bit_1_C => [0xCB, 0x49]
  | .bit_1_D => [0xCB, 0x4A]
  | .bit_1_E => [0xCB, 0x4B]
  | .bit_1_H => [0xCB, 0x4C]
  | .bit_1_L => [0xCB, 0x4D]
  | .bit_1_atHL => [0xCB, 0x4E]
  | .bit_1_A => [0xCB, 0x4F]
  | .bit_2_B => [0xCB, 0x50]
  | .bit_2_C => [0xCB, 0x51]
  | .bit_2_D => [0xCB, 0x52]
  | .bit_2_E => [0xCB, 0x53]
  | .bit_2_H => [0xCB, 0x54]
  | .bit_2_L => [0xCB, 0x55]
  | .bit_2_atHL => [0xCB, 0x56]
  | .bit_2_A => [0xCB, 0x57]
  | .bit_3_B => [0xCB, 0x58]
  | .bit_3_C => [0xCB, 0x59]
  | .bit_3_D => [0xCB, 0x5A]
  | .bit_3_E => [0xCB, 0x5B]
  | .bit_3_H => [0xCB, 0x5C]
  | .bit_3_L => [0xCB, 0x5D]
  | .bit_3_atHL => [0xCB, 0x5E]
  | .bit_3_A => [0xCB, 0x5F]
  | .bit_4_B => [0xCB, 0x60]
  | .bit_4_C => [0xCB, 0x61]
  | .bit_4_D => [0xCB, 0x62]
  | .bit_4_E => [0xCB, 0x63]
  | .bit_4_H => [0xCB, 0x64]
  | .bit_4_L => [0xCB, 0x65]
  | .bit_4_atHL => [0xCB, 0x66]
  | .bit_4_A => [0xCB, 0x67]
  | .bit_5_B => [0xCB, 0x68]
  | .bit_5_C => [0xCB, 0x69]
  | .bit_5_D => [0xCB, 0x6A]
  | .bit_5_E => [0xCB, 0x6B]
  | .bit_5_H => [0xCB, 0x6C]
  | .bit_5_L => [0xCB, 0x6D]
  | .bit_5_atHL => [0xCB, 0x6E]
  | .bit_5_A => [0xCB, 0x6F]
  | .bit_6_B => [0xCB, 0x70]
  | .bit_6_C => [0xCB, 0x71]
  | .bit_6_D => [0xCB, 0x72]
  | .bit_6_E => [0xCB, 0x73]
  | .bit_6_H => [0xCB, 0x74]
  | .bit_6_L => [0xCB, 0x75]
  | .bit_6_atHL => [0xCB, 0x76]
  | .bit_6_A => [0xCB, 0x77]
  | .bit_7_B => [0xCB, 0x78]
  | .bit_7_C => [0xCB, 0x79]
  | .bit_7_D => [0xCB, 0x7A]
  | .bit_7_E => [0xCB, 0x7B]
  | .bit_7_H => [0xCB, 0x7C]
  | .bit_7_L => [0xCB, 0x7D]
  | .bit_7_atHL => [0xCB, 0x7E]
  | .bit_7_A => [0xCB, 0x7F]
  | .res_0_B => [0xCB, 0x80]
  | .res_0_C => [0xCB, 0x81]
  | .res_0_D => [0xCB, 0x82]
  | .res_0_E => [0xCB, 0x83]
  | .res_0_H => [0xCB, 0x84]
  | .res_0_L => [0xCB, 0x85]
  | .res_0_atHL => [0xCB, 0x86]
  | .res_0_A => [0xCB, 0x87]
  | .res_1_B => [0xCB, 0x88]
  | .res_1_C => [0xCB, 0x89]
  | .res_1_D => [0xCB, 0x8A]
  | .res_1_E => [0xCB, 0x8B]
  | .res_1_H => [0xCB, 0x8C]
  | .res_1_L => [0xCB, 0x8D]
  | .res_1_atHL => [0xCB, 0x8E]
  | .res_1_A => [0xCB, 0x8F]
  | .res_2_B => [0xCB, 0x90]
  | .res_2_C => [0xCB, 0x91]
  | .res_2_D => [0xCB, 0x92]
  | .res_2_E => [0xCB, 0x93]
  | .res_2_H => [0xCB, 0x94]
  | .res_2_L => [0xCB, 0x95]
  | .res_2_atHL => [0xCB, 0x96]
  | .res_2_A => [0xCB, 0x97]
  | .res_3_B => [0xCB, 0x98]
  | .res_3_C => [0xCB, 0x99]
  | .res_3_D => [0xCB, 0x9A]
  | .res_3_E => [0xCB, 0x9B]
  | .res_3_H => [0xCB, 0x9C]
  | .res_3_L => [0xCB, 0x9D]
  | .res_3_atHL => [0xCB, 0x9E]
  | .res_3_A => [0xCB, 0x9F]
  | .res_4_B => [0xCB, 0xA0]
  | .res_4_C => [0xCB, 0xA1]
  | .res_4_D => [0xCB, 0xA2]
  | .res_4_E => [0xCB, 0xA3]
  | .res_4_H => [0xCB, 0xA4]
  | .res_4_L => [0xCB, 0xA5]
  | .res_4_atHL => [0xCB, 0xA6]
  | .res_4_A => [0xCB, 0xA7]
  | .res_5_B => [0xCB, 0xA8]
  | .res_5_C => [0xCB, 0xA9]
  | .res_5_D => [0xCB, 0xAA]
  | .res_5_E => [0xCB, 0xAB]
  | .res_5_H => [0xCB, 0xAC]
  | .res_5_L => [0xCB, 0xAD]
  | .res_5_atHL => [0xCB, 0xAE]
  | .res_5_A => [0xCB, 0xAF]
  | .res_6_B => [0xCB, 0xB0]
  | .res_6_C => [0xCB, 0xB1]
  | .res_6_D => [0xCB, 0xB2]
  | .res_6_E => [0xCB, 0xB3]
  | .res_6_H => [0xCB, 0xB4]
  | .res_6_L => [0xCB, 0xB5]
  | .res_6_atHL => [0xCB, 0xB6]
  | .res_6_A => [0xCB, 0xB7]
  | .res_7_B => [0xCB, 0xB8]
  | .res_7_C => [0xCB, 0xB9]
  | .res_7_D => [0xCB, 0xBA]
  | .res_7_E => [0xCB, 0xBB]
  | .res_7_H => [0xCB, 0xBC]
  | .res_7_L => [0xCB, 0xBD]
  | .res_7_atHL => [0xCB, 0xBE]
  | .res_7_A => [0xCB, 0xBF]
  | .set_0_B => [0xCB, 0xC0]
  | .set_0_C => [0xCB, 0xC1]
  | .set_0_D => [0xCB, 0xC2]
  | .set_0_E => [0xCB, 0xC3]
  | .set_0_H => [0xCB, 0xC4]
  | .set_0_L => [0xCB, 0xC5]
  | .set_0_atHL => [0xCB, 0xC6]
  | .set_0_A => [0xCB, 0xC7]
  | .set_1_B => [0xCB, 0xC8]
  | .set_1_C => [0xCB, 0xC9]
  | .set_1_D => [0xCB, 0xCA]
  | .set_1_E => [0xCB, 0xCB]
  | .set_1_H => [0xCB, 0xCC]
  | .set_1_L => [0xCB, 0xCD]
  | .set_1_atHL => [0xCB, 0xCE]
  | .set_1_A => [0xCB, 0xCF]
  | .set_2_B => [0xCB, 0xD0]
  | .set_2_C => [0xCB, 0xD1]
  | .set_2_D => [0xCB, 0xD2]
  | .set_2_E => [0xCB, 0xD3]
  | .set_2_H => [0xCB, 0xD4]
  | .set_2_L => [0xCB, 0xD5]
  | .set_2_atHL => [0xCB, 0xD6]
  | .set_2_A => [0xCB, 0xD7]
  | .set_3_B => [0xCB, 0xD8]
  | .set_3_C => [0xCB, 0xD9]
  | .set_3_D => [0xCB, 0xDA]
  | .set_3_E => [0xCB, 0xDB]
  | .set_3_H => [0xCB, 0xDC]
  | .set_3_L => [0xCB, 0xDD]
  | .set_3_atHL => [0xCB, 0xDE]
  | .set_3_A => [0xCB, 0xDF]
  | .set_4_B => [0xCB, 0xE0]
  | .set_4_C => [0xCB, 0xE1]
  | .set_4_D => [0xCB, 0xE2]
  | .set_4_E => [0xCB, 0xE3]
  | .set_4_H => [0xCB, 0xE4]
  | .set_4_L => [0xCB, 0xE5]
  | .set_4_atHL => [0xCB, 0xE6]
  | .set_4_A => [0xCB, 0xE7]
  | .set_5_B => [0xCB, 0xE8]
  | .set_5_C => [0xCB, 0xE9]
  | .set_5_D => [0xCB, 0xEA]
  | .set_5_E => [0xCB, 0xEB]
  | .set_5_H => [0xCB, 0xEC]
  | .set_5_L => [0xCB, 0xED]
  | .set_5_atHL => [0xCB, 0xEE]
  | .set_5_A => [0xCB, 0xEF]
  | .set_6_B => [0xCB, 0xF0]
  | .set_6_C => [0xCB, 0xF1]
  | .set_6_D => [0xCB, 0xF2]
  | .set_6_E => [0xCB, 0xF3]
  | .set_6_H => [0xCB, 0xF4]
  | .set_6_L => [0xCB, 0xF5]
  | .set_6_atHL => [0xCB, 0xF6]
  | .set_6_A => [0xCB, 0xF7]
  | .set_7_B => [0xCB, 0xF8]
  | .set_7_C => [0xCB, 0xF9]
  | .set_7_D => [0xCB, 0xFA]
  | .set_7_E => [0xCB, 0xFB]
  | .set_7_H => [0xCB, 0xFC]
  | .set_7_L => [0xCB, 0xFD]
  | .set_7_atHL => [0xCB, 0xFE]
  | .set_7_A => [0xCB, 0xFF]

/-- The first byte of an instruction. -/
def firstByte (i : Instr) : Byte := (encode i).headD 0

/-- The tier of an instruction (rule R4): the marks [G] and [X] of the table of rule R78, and the opcode table's U and P. -/
def Instr.tier : Instr → Tier
  | .nop => .g
  | .ld_at_a16_SP _ => .g
  | .daa => .g
  | .ld_SP_d16 _ => .g
  | .ret_NZ => .g
  | .pop_BC => .g
  | .call_NZ_a16 _ => .g
  | .push_BC => .g
  | .add_A_d8 _ => .g
  | .rst_00 => .g
  | .ret_Z => .g
  | .ret => .g
  | .call_Z_a16 _ => .g
  | .call_a16 _ => .g
  | .adc_A_d8 _ => .g
  | .rst_08 => .g
  | .ret_NC => .g
  | .pop_DE => .g
  | .call_NC_a16 _ => .g
  | .push_DE => .g
  | .sub_d8 _ => .g
  | .rst_10 => .g
  | .ret_C => .g
  | .call_C_a16 _ => .g
  | .sbc_A_d8 _ => .g
  | .rst_18 => .g
  | .pop_HL => .g
  | .push_HL => .g
  | .and_d8 _ => .g
  | .rst_20 => .g
  | .add_SP_e8 _ => .g
  | .xor_d8 _ => .g
  | .rst_28 => .g
  | .pop_AF => .g
  | .di => .g
  | .push_AF => .g
  | .or_d8 _ => .g
  | .rst_30 => .g
  | .ld_HL_SPplus_e8 _ => .g
  | .ld_SP_HL => .g
  | .cp_d8 _ => .g
  | .rst_38 => .g
  | .stop => .x
  | .halt => .x
  | .reti => .x
  | .ei => .x
  | .undefined _ => .u
  | .prefixCB _ => .p
  | _ => .s

/-- The encoded length of rule R81 (`PC + len` of rule R103); STOP counts its unfetched second byte.
DESIGN CHOICE (log entry 18): "An undefined byte has no length" (rule R81), and the 1 given for `.undefined b` stands for no
length of the spec's; it is only how many bytes `encode` writes, and no step uses it. -/
def Instr.length : Instr → Nat
  | .stop => 2
  | i => (encode i).length

/-- Field value of the operand selector `r` (rule R74). -/
def Opd8.code : Opd8 → Nat
  | .reg .b => 0 | .reg .c => 1 | .reg .d => 2 | .reg .e => 3 | .reg .h => 4 | .reg .l => 5 | .atHL => 6 | .reg .a => 7

/-- The operand selector of a field value (rule R74). -/
def Opd8.ofCode : Nat → Opd8
  | 0 => .reg .b | 1 => .reg .c | 2 => .reg .d | 3 => .reg .e | 4 => .reg .h | 5 => .reg .l | 6 => .atHL | _ => .reg .a

/-- Field value of the selector `rr` (rule R75). -/
def Reg16.code : Reg16 → Nat
  | .bc => 0 | .de => 1 | .hl => 2 | .sp => 3

/-- Field value of the selector `rr2` (rule R75). -/
def Pair.code : Pair → Nat
  | .bc => 0 | .de => 1 | .hl => 2 | .af => 3

/-- Field value of `rr` for the pairs of `LD rr,d16` (rules R75, R205). -/
def WordPair.code : WordPair → Nat
  | .bc => 0 | .de => 1 | .hl => 2

/-- Field value of a condition (rule R76). -/
def Cond.code : Cond → Nat
  | .nz => 0 | .z => 1 | .nc => 2 | .c => 3

/-- Field y of the accumulator operations' opcodes (rules R120 to R127). -/
def AluOp.code : AluOp → Nat
  | .add => 0 | .adc => 1 | .sub => 2 | .sbc => 3 | .and => 4 | .xor => 5 | .or => 6 | .cp => 7

/-- Field y of the extended rotates and shifts (rule R77). -/
def RotOp.code : RotOp → Nat
  | .rlc => 0 | .rrc => 1 | .rl => 2 | .rr => 3 | .sla => 4 | .sra => 5 | .swap => 6 | .srl => 7

/-- The extended rotate or shift of a field value (rule R77). -/
def RotOp.ofCode : Nat → RotOp
  | 0 => .rlc | 1 => .rrc | 2 => .rl | 3 => .rr | 4 => .sla | 5 => .sra | 6 => .swap | _ => .srl

/-- The bytes of an opcode-table word in fetch order, three of them (the longest instruction, rule R71), zeros above.
The table writes an extended row as 0xCBNN "over the two bytes in fetch order", so a 16-bit word whose upper byte is the
prefix holds the first byte on top; every other word holds its first byte in bits 7..0. -/
def tableBytes (nbits w : Nat) : List Byte :=
  if nbits = 16 ∧ w / 256 % 256 = 0xCB then
    [BitVec.ofNat 8 (w / 256), BitVec.ofNat 8 w, 0]
  else
    [BitVec.ofNat 8 w, BitVec.ofNat 8 (w / 256), BitVec.ofNat 8 (w / 65536)]

/-- The instruction the decoder reads from an opcode-table word. -/
def decodeTableWord (nbits w : Nat) : Option Instr :=
  match decode (tableBytes nbits (w % 2 ^ nbits)) with
  | .instr i _ => some i
  | .truncated => none

end Sys2Proof
end

