-- ==== Sys2Proof/Config.lean ====
section
/-! DEFINITION. Config.lean: the implementation parameters of spec/00_scope.md rule R6, and the two choices the model
makes where the spec leaves a value open.  ENTRY_PC, INIT_SP and GK_OPS travel in State (field `params`), so that every statement
about all states holds for all their values; `Config.params` is only the value `State.reset` starts from. -/

namespace Sys2Proof

/-- The parameter `GK_OPS` (rules R4, R6): whether tier-G instructions execute. -/
inductive GkOps where
  | refuse
  | admitG
  deriving DecidableEq, Repr

/-- The parameters of rule R6 but for the bus: `Config.busRead` and `Config.busWrite`, and the state field `bus`. -/
structure Params where
  entryPc : Word
  initSp : Word
  gkOps : GkOps
  deriving DecidableEq, Repr

/-- The parameter values `State.reset` takes.  DESIGN CHOICE, unsafe: rule R6 leaves ENTRY_PC and INIT_SP open
(log entry 3), and `admitG` makes every instruction the spec gives an effect executable from reset, where the spec's own
default is `refuse` (log entry 4). -/
def Config.params : Params := { entryPc := 0x0000, initSp := 0x0000, gkOps := .admitG }

/-- The parameter `Bus`'s `read` (rules R6, R49): what the platform answers in bus state `n` to a read of an address, the
byte or its failure information, and the bus state it is then in.  It has no body, so what is proved holds for every bus.
The bus states are numbered, DESIGN CHOICE (log entry 6): from one bus state only countably many can be reached. -/
opaque Config.busRead : Nat → Word → Except Nat Byte × Nat

/-- The parameter `Bus`'s `write` (rules R6, R49): likewise for the write of a byte. -/
opaque Config.busWrite : Nat → Word → Byte → Except Nat Unit × Nat

/-- What a memory byte reads as that nothing has written.  DESIGN CHOICE, unsafe: the content is the bus's (rule R50);
the flat RAM of the spec's vectors starts at 0x00 (log entry 5). -/
def Config.blankByte : Byte := 0x00

end Sys2Proof
end

