-- ==== Sys2Proof/Machine/State.lean ====
section
/-! DEFINITION. Machine/State.lean: the machine's state as plain data (spec/10_state.md), the reasons a step can stop
(spec/60_exceptions.md rule R301), and the state after reset (rule R31). -/

namespace Sys2Proof.Machine

/-- The seven 8-bit registers (rules R16, R18). -/
structure Regs where
  a : Byte
  b : Byte
  c : Byte
  d : Byte
  e : Byte
  h : Byte
  l : Byte
  deriving DecidableEq, Repr

/-- The four flags (rules R16, R19): zero, subtraction, half-carry, carry. -/
structure Flags where
  z : Bool
  n : Bool
  h : Bool
  c : Bool
  deriving DecidableEq, Repr

/-- How the bus answers one access that is still to come (rules R48, R49); see `Bus`. -/
inductive BusAnswer where
  | ram                  -- the RAM behind the bus serves it: a read gives the stored byte, a write stores
  | device (v : Byte)    -- something else serves it: a read gives `v`, a write is taken and stores nothing
  | fail (info : Nat)    -- the bus does not serve it (`BusFail`); `info` is the bus's own failure information
  deriving DecidableEq, Repr

/-- What serves the accesses the script says nothing about: the flat RAM of rule R51, or the parameter `Bus` of rule R49
in the bus state numbered `n` (`Config.busRead`, `Config.busWrite`). -/
inductive Backing where
  | ram
  | platform (n : Nat)
  deriving DecidableEq, Repr

/-- The state of the external bus, the spec's `BusState` (rule R49), as plain data.
`cells` is the RAM behind it: (address, byte) pairs, addresses rising, none listed that holds `Config.blankByte`.
`script` says how the next accesses are answered, one entry an access, oldest first; past its end `backing` serves every
access.  With no script, `.ram` is the flat-RAM bus of rule R51 and `.platform n` is any bus of rule R49 whatever.
DESIGN CHOICE (log entry 6). -/
structure Bus where
  cells : List Host.Cell
  script : List BusAnswer
  backing : Backing := .ram
  deriving DecidableEq, Repr

/-- The kind of a bus access (rule R52). -/
inductive Access where
  | read
  | write
  deriving DecidableEq, Repr

/-- The reason of a refusal (rules R102, R240, R241), with the mnemonic as spec/opcode_table.json's `source_mnemonic`. -/
inductive RefusedReason where
  | tierX (mnemonic : String)
  | tierG (mnemonic : String)
  | unmodelled (mnemonic : String)    -- the model's own: an arm of exec that has no meaning (there is none)
  deriving DecidableEq, Repr

/-- The outcomes of a step other than `Ok` (rules R100, R301); the failure information of the bus is carried along
(rule R52). -/
inductive StopOutcome where
  | decodeFailure (address : Word) (byte : Byte)
  | busFailure (kind : Access) (address : Word) (value : Option Byte) (info : Nat)
  | refused (address : Word) (bytes : List Byte) (reason : RefusedReason)
  deriving DecidableEq, Repr

/-- The run status (rule R17). -/
inductive RunStatus where
  | running
  | stopped (o : StopOutcome)
  deriving DecidableEq, Repr

/-- The state: the registers and flags (rules R16, R19), PC (R27), SP (R28), the run status (R17), the bus with the
memory behind it (R49), and the parameters (R6), which no step changes. -/
structure State where
  regs : Regs
  flags : Flags
  pc : Word
  sp : Word
  status : RunStatus
  bus : Bus
  params : Params
  deriving DecidableEq, Repr

/-- The faults, "the two error kinds" of rule R301.  Each carries `bus`, the bus state it leaves behind: the accesses
issued before the fault stand (rule R101). -/
inductive Fault where
  /-- The opcode byte is undefined (rule R79).  Raised by the meaning of the undefined rows.  Safe: it is the spec's own
  outcome, and the machine stops. -/
  | decodeFailure (address : Word) (byte : Byte) (bus : Bus)
  /-- The bus did not serve an access (rule R52); `value` is the byte of a write.  Raised by every bus access.  Safe: it
  is the spec's own outcome, and the machine stops. -/
  | busFailure (kind : Access) (address : Word) (value : Option Byte) (info : Nat) (bus : Bus)
  deriving DecidableEq, Repr

/-- The refusals, the spec's outcome `Refused(address, bytes, reason)` (rule R102), with the bus state left behind. -/
inductive Refusal where
  /-- An arm of exec that has no meaning.  Raised by no arm.  Safe: nothing can be proved about such a step. -/
  | notModelled (mnemonic : String)
  /-- HALT, STOP, EI, RETI (rule R241).  Raised by their meanings under every parameter value.  Safe: "no claim can be
  proved about a program that reaches one" (rule R102). -/
  | tierX (address : Word) (bytes : List Byte) (mnemonic : String) (bus : Bus)
  /-- A tier-G instruction with `GK_OPS = refuse` (rule R240).  Raised by the gate of the tier-G meanings.  Safe, as
  above. -/
  | tierG (address : Word) (bytes : List Byte) (mnemonic : String) (bus : Bus)
  deriving DecidableEq, Repr

/-- The outcome a fault records (rule R301). -/
def Fault.outcome : Fault → StopOutcome
  | .decodeFailure a b _ => .decodeFailure a b
  | .busFailure k a v info _ => .busFailure k a v info

/-- The bus state a fault leaves (rule R101). -/
def Fault.bus : Fault → Bus
  | .decodeFailure _ _ bus => bus
  | .busFailure _ _ _ _ bus => bus

/-- The outcome a refusal records (rule R102). -/
def Refusal.outcome : Refusal → StopOutcome
  | .notModelled m => .refused 0 [] (.unmodelled m)
  | .tierX a bytes m _ => .refused a bytes (.tierX m)
  | .tierG a bytes m _ => .refused a bytes (.tierG m)

/-- The bus state a refusal of the step at `s` leaves (rule R101). -/
def Refusal.bus (s : State) : Refusal → Bus
  | .notModelled _ => s.bus
  | .tierX _ _ _ bus => bus
  | .tierG _ _ _ bus => bus

/-- What a step or a meaning answers. -/
abbrev Result := Host.Outcome State Fault Refusal

/-- The register file after reset with parameters `p` (rules R31, R330): registers and flags 0, PC = ENTRY_PC,
SP = INIT_SP, status Running, over the bus as it stands. -/
def State.initial (p : Params) (bus : Bus) : State where
  regs := { a := 0, b := 0, c := 0, d := 0, e := 0, h := 0, l := 0 }
  flags := { z := false, n := false, h := false, c := false }
  pc := p.entryPc
  sp := p.initSp
  status := .running
  bus := bus
  params := p

/-- The machine right after reset, over a flat RAM that nothing has been written to (rule R31; log entries 3, 4, 5). -/
def State.reset : State := State.initial Config.params { cells := [], script := [], backing := .ram }

end Sys2Proof.Machine
end

