-- ==== Sys2Proof/Machine/Ops.lean ====
section
/-! DEFINITION. Machine/Ops.lean: the named operations over memory, bus and registers that every meaning is written
with.  A step that does not end Ok has no next state: its register writes are never seen (rule R105), and the stop
carries the bus state the accesses so far have left (rule R101). -/

namespace Sys2Proof.Machine

/-- `zext_16` (rule R9). -/
def zext16 (v : Byte) : Word := v.setWidth 16

/-- `sext_16` (rule R9). -/
def sext16 (v : Byte) : Word := v.signExtend 16

/-- `0xFF00 + x`, an address of the high page (rules R59, R73). -/
def highPage (x : Byte) : Word := 0xFF00 + zext16 x

/-! ### Memory -/

/-- The byte at address `a`; an unlisted address reads as `Config.blankByte`. -/
def Memory.peek : List Host.Cell → Nat → Byte
  | [], _ => Config.blankByte
  | (k, x) :: rest, a => if a = k then x else Memory.peek rest a

/-- The memory with `v` at address `a`, in the same canonical form. -/
def Memory.poke : List Host.Cell → Nat → Byte → List Host.Cell
  | [], a, v => if v = Config.blankByte then [] else [(a, v)]
  | (k, x) :: rest, a, v =>
    if a < k then (if v = Config.blankByte then (k, x) :: rest else (a, v) :: (k, x) :: rest)
    else if a = k then (if v = Config.blankByte then rest else (a, v) :: rest)
    else (k, x) :: Memory.poke rest a v

/-- The addresses are at least `lo`, rising and inside the 64 KiB space (rule R46), and no entry holds the value an
unlisted address reads as. -/
def Memory.wfFrom : Nat → List Host.Cell → Bool
  | _, [] => true
  | lo, (k, x) :: rest => lo ≤ k && k < 65536 && x != Config.blankByte && Memory.wfFrom (k + 1) rest

/-- The canonical form: equal memories are equal lists. -/
def Memory.wf (cells : List Host.Cell) : Bool := Memory.wfFrom 0 cells

/-! ### The bus (rules R47 to R52) -/

/-- What the bus answers to a read (rule R49); a failing bus has moved on too (log entry 7). -/
inductive ReadAnswer where
  | byte (v : Byte) (bus : Bus)
  | fail (info : Nat) (bus : Bus)
  deriving DecidableEq, Repr

/-- What the bus answers to a write (rule R49). -/
inductive WriteAnswer where
  | done (bus : Bus)
  | fail (info : Nat) (bus : Bus)
  deriving DecidableEq, Repr

/-- The RAM byte at an address. -/
def Bus.peek (bus : Bus) (a : Word) : Byte := Memory.peek bus.cells a.toNat

/-- The bus with a RAM byte stored. -/
def Bus.poke (bus : Bus) (a : Word) (v : Byte) : Bus := { bus with cells := Memory.poke bus.cells a.toNat v }

/-- A read that the script says nothing about: one call of the parameter's `read`, or the RAM (rules R49, R51). -/
def Bus.readBacking (bus : Bus) (a : Word) : ReadAnswer :=
  match bus.backing with
  | .ram => .byte (bus.peek a) bus
  | .platform n =>
    match Config.busRead n a with
    | (.ok v, m) => .byte v { bus with backing := .platform m }
    | (.error info, m) => .fail info { bus with backing := .platform m }

/-- A write that the script says nothing about: one call of the parameter's `write`, or the RAM (rules R49, R51). -/
def Bus.writeBacking (bus : Bus) (a : Word) (v : Byte) : WriteAnswer :=
  match bus.backing with
  | .ram => .done (bus.poke a v)
  | .platform n =>
    match Config.busWrite n a v with
    | (.ok _, m) => .done { bus with backing := .platform m }
    | (.error info, m) => .fail info { bus with backing := .platform m }

/-- One read request (rules R47, R49). -/
def Bus.read (bus : Bus) (a : Word) : ReadAnswer :=
  match bus.script with
  | [] => bus.readBacking a
  | .ram :: rest => .byte (bus.peek a) { bus with script := rest }
  | .device v :: rest => .byte v { bus with script := rest }
  | .fail info :: rest => .fail info { bus with script := rest }

/-- One write request (rules R47, R49). -/
def Bus.write (bus : Bus) (a : Word) (v : Byte) : WriteAnswer :=
  match bus.script with
  | [] => bus.writeBacking a v
  | .ram :: rest => .done ({ bus with script := rest }.poke a v)
  | .device _ :: rest => .done { bus with script := rest }
  | .fail info :: rest => .fail info { bus with script := rest }

/-- The flat-RAM bus of rule R51: the RAM serves every access to come. -/
abbrev Bus.FlatRam (bus : Bus) : Prop := bus.script = [] ∧ bus.backing = .ram

/-! ### Registers -/

/-- `x[r]` (rule R11). -/
def Regs.get (g : Regs) : Reg8 → Byte
  | .a => g.a | .b => g.b | .c => g.c | .d => g.d | .e => g.e | .h => g.h | .l => g.l

/-- `x[r] <- v` (rule R11). -/
def Regs.set (g : Regs) (r : Reg8) (v : Byte) : Regs :=
  match r with
  | .a => { g with a := v } | .b => { g with b := v } | .c => { g with c := v } | .d => { g with d := v }
  | .e => { g with e := v } | .h => { g with h := v } | .l => { g with l := v }

/-- The flags codec's `encode`, which is the view F (rules R20, R22). -/
def Flags.encode (f : Flags) : Byte :=
  ((if f.z then 1 else 0) <<< 7) ||| ((if f.n then 1 else 0) <<< 6) ||| ((if f.h then 1 else 0) <<< 5)
    ||| ((if f.c then 1 else 0) <<< 4)

/-- The flags codec's `decode` (rule R21): bits 3 to 0 are ignored. -/
def Flags.decode (b : Byte) : Flags :=
  { z := b.getLsbD 7, n := b.getLsbD 6, h := b.getLsbD 5, c := b.getLsbD 4 }

def State.reg (s : State) (r : Reg8) : Byte := s.regs.get r

def State.setReg (s : State) (r : Reg8) (v : Byte) : State := { s with regs := s.regs.set r v }

def State.setFlags (s : State) (f : Flags) : State := { s with flags := f }

def State.setPc (s : State) (w : Word) : State := { s with pc := w }

def State.setSp (s : State) (w : Word) : State := { s with sp := w }

def State.setBus (s : State) (bus : Bus) : State := { s with bus := bus }

/-- `pair(p)`, composed from the live halves (rules R23, R25, R26). -/
def State.pair (s : State) : Pair → Word
  | .bc => joinBytes s.regs.b s.regs.c
  | .de => joinBytes s.regs.d s.regs.e
  | .hl => joinBytes s.regs.h s.regs.l
  | .af => joinBytes s.regs.a s.flags.encode

/-- `pair(p) <- w`, decomposed into the halves (rules R24, R25). -/
def State.setPair (s : State) (p : Pair) (w : Word) : State :=
  match p with
  | .bc => (s.setReg .b (hi8 w)).setReg .c (lo8 w)
  | .de => (s.setReg .d (hi8 w)).setReg .e (lo8 w)
  | .hl => (s.setReg .h (hi8 w)).setReg .l (lo8 w)
  | .af => (s.setReg .a (hi8 w)).setFlags (Flags.decode (lo8 w))

/-! ### Accesses, ends of a step, stops -/

/-- `MemRead(a, 1)`, then `k` with the byte and the state over the new bus state (rules R12, R49, R52). -/
def memRead (s : State) (a : Word) (k : Byte → State → Result) : Result :=
  match s.bus.read a with
  | .byte v bus => k v (s.setBus bus)
  | .fail info bus => .fault (.busFailure .read a none info bus)

/-- `MemWrite(a, 1, v)`, then `k` with the state over the new bus state (rules R12, R49, R52). -/
def memWrite (s : State) (a : Word) (v : Byte) (k : State → Result) : Result :=
  match s.bus.write a v with
  | .done bus => k (s.setBus bus)
  | .fail info bus => .fault (.busFailure .write a (some v) info bus)

/-- `push16(w)` (file 48, section 2): the high byte at the higher address, written first. -/
def push16 (s : State) (w : Word) (k : State → Result) : Result :=
  let s := s.setSp (s.sp - 1)
  memWrite s s.sp (hi8 w) fun s =>
    let s := s.setSp (s.sp - 1)
    memWrite s s.sp (lo8 w) k

/-- `pop16()` (file 48, section 2): the low byte first, SP stepping up after each read. -/
def pop16 (s : State) (k : Word → State → Result) : Result :=
  memRead s s.sp fun lo s =>
    let s := s.setSp (s.sp + 1)
    memRead s s.sp fun hi s =>
      let s := s.setSp (s.sp + 1)
      k (joinBytes hi lo) s

/-- The end of an instruction that names no PC target: `PC <- PC + len` (rule R103). -/
def advance (len : Word) (s : State) : Result := .next (s.setPc (s.pc + len))

/-- The tier-G gate (rule R240): refused under `GK_OPS = refuse` before any access, run under `admitG`. -/
def gated (b0 : Byte) (mnemonic : String) (s : State) (run : Result) : Result :=
  match s.params.gkOps with
  | .refuse => .refused (.tierG s.pc [b0] mnemonic s.bus)
  | .admitG => run

/-- What stands for taking an exception on this block, which has no trap entry (rule R303): the registers, flags and PC
are those before the step, nothing is pushed, the bus is as the accesses left it, and the outcome is recorded in the run
status (rules R101, R104). -/
def State.stopWith (s : State) (o : StopOutcome) (bus : Bus) : State := { s with status := .stopped o, bus := bus }

/-- The reset input (rules R330, R331): every register takes its reset value, the run status is Running, memory and
parameters stay. -/
def State.applyReset (s : State) : State := State.initial s.params s.bus

end Sys2Proof.Machine
end

