-- ==== Sys2Proof/Machine/Flags.lean ====
section
/-! DEFINITION. Machine/Flags.lean: every result-and-flag computation of the ALU (spec/41_alu8.md, 42, 44, 48).  Sums are
compared as integers and results taken modulo the width, as rule R8 has it. -/

namespace Sys2Proof.Machine

/-- A bit as the integer 0 or 1 (rule R7). -/
def bitNat (b : Bool) : Nat := if b then 1 else 0

/-- A bit as the byte 0 or 1 (rule R7). -/
def bitByte (b : Bool) : Byte := if b then 1 else 0

/-- `(res, z, h, c)` of the 8-bit adder and subtractor (rules R115, R116). -/
structure Arith8 where
  res : Byte
  z : Bool
  h : Bool
  c : Bool
  deriving DecidableEq, Repr

/-- The 8-bit adder (rule R115). -/
def add8 (x y : Byte) (cin : Bool) : Arith8 :=
  let res := x + y + bitByte cin
  { res := res
    z := res == 0
    h := decide ((x &&& 0xF).toNat + (y &&& 0xF).toNat + bitNat cin > 0xF)
    c := decide (x.toNat + y.toNat + bitNat cin > 0xFF) }

/-- The 8-bit subtractor (rule R116). -/
def sub8 (x y : Byte) (cin : Bool) : Arith8 :=
  let res := x - y - bitByte cin
  { res := res
    z := res == 0
    h := decide ((x &&& 0xF).toNat < (y &&& 0xF).toNat + bitNat cin)
    c := decide (x.toNat < y.toNat + bitNat cin) }

/-- What an accumulator operation leaves: A and the four flags. -/
structure AluOut where
  acc : Byte
  flags : Flags
  deriving DecidableEq, Repr

/-- The flags of an adder result: N = 0. -/
def addOut (r : Arith8) : AluOut := { acc := r.res, flags := { z := r.z, n := false, h := r.h, c := r.c } }

/-- The flags of a subtractor result: N = 1. -/
def subOut (r : Arith8) : AluOut := { acc := r.res, flags := { z := r.z, n := true, h := r.h, c := r.c } }

/-- The flags of a bitwise result: Z from it, N = C = 0, H as given (rules R124 to R126). -/
def logicOut (res : Byte) (h : Bool) : AluOut := { acc := res, flags := { z := res == 0, n := false, h := h, c := false } }

/-- The accumulator operation `op` on A = `x` and operand `y` with incoming carry `cin` (rules R120 to R127). -/
def aluOut (op : AluOp) (x y : Byte) (cin : Bool) : AluOut :=
  match op with
  | .add => addOut (add8 x y false)
  | .adc => addOut (add8 x y cin)
  | .sub => subOut (sub8 x y false)
  | .sbc => subOut (sub8 x y cin)
  | .and => logicOut (x &&& y) true
  | .xor => logicOut (x ^^^ y) false
  | .or => logicOut (x ||| y) false
  | .cp => { subOut (sub8 x y false) with acc := x }

/-- Flags of `INC r` on operand value `v`; C as before (rule R140). -/
def incFlags (f : Flags) (v : Byte) : Flags := { z := v + 1 == 0, n := false, h := v &&& 0xF == 0xF, c := f.c }

/-- Flags of `DEC r` on operand value `v`; C as before (rule R141). -/
def decFlags (f : Flags) (v : Byte) : Flags := { z := v - 1 == 0, n := true, h := v &&& 0xF == 0x0, c := f.c }

/-- Flags of `ADD HL,rr`; Z as before, H the carry out of bit 11, C out of bit 15 (rule R144). -/
def addHlFlags (f : Flags) (hl v : Word) : Flags :=
  { z := f.z
    n := false
    h := decide ((hl &&& 0xFFF).toNat + (v &&& 0xFFF).toNat > 0xFFF)
    c := decide (hl.toNat + v.toNat > 0xFFFF) }

/-- The result and the bit rotated or shifted out, C before being `cin` (rules R160 to R171). -/
def rotOut (op : RotOp) (v : Byte) (cin : Bool) : Byte × Bool :=
  match op with
  | .rlc => ((v <<< 1) ||| bitByte (v.getLsbD 7), v.getLsbD 7)
  | .rrc => ((v >>> 1) ||| (bitByte (v.getLsbD 0) <<< 7), v.getLsbD 0)
  | .rl => ((v <<< 1) ||| bitByte cin, v.getLsbD 7)
  | .rr => ((v >>> 1) ||| (bitByte cin <<< 7), v.getLsbD 0)
  | .sla => (v <<< 1, v.getLsbD 7)
  | .sra => ((v >>> 1) ||| (v &&& 0x80), v.getLsbD 0)
  | .swap => (((v &&& 0xF) <<< 4) ||| ((v &&& 0xF0) >>> 4), false)
  | .srl => (v >>> 1, v.getLsbD 0)

/-- Flags of `BIT b,r`: Z from the bit, H = 1, C as before (rule R180). -/
def bitFlags (f : Flags) (b : Fin 8) (v : Byte) : Flags := { z := !v.getLsbD b, n := false, h := true, c := f.c }

/-- Flags of `ADD SP,e8` and `LD HL,SP+e8`, from the unsigned low bytes (rules R261, R262). -/
def spOffsetFlags (sp : Word) (e : Byte) : Flags :=
  { z := false
    n := false
    h := decide ((sp &&& 0x0F).toNat + (e &&& 0x0F).toNat > 0x0F)
    c := decide ((sp &&& 0xFF).toNat + e.toNat > 0xFF) }

/-- What DAA leaves in A and the flags (rule R255). -/
def daaOut (x : Byte) (f : Flags) : AluOut :=
  let hiAdd := !f.n && (f.c || decide (x.toNat > 0x99))
  let up := if hiAdd then x + 0x60 else x
  let up := if f.h || decide ((up &&& 0x0F).toNat > 0x09) then up + 0x06 else up
  let down := if f.c then x - 0x60 else x
  let down := if f.h then down - 0x06 else down
  let res := if f.n then down else up
  { acc := res, flags := { z := res == 0, n := f.n, h := false, c := f.c || hiAdd } }

end Sys2Proof.Machine
end

