-- ==== Sys2Proof/Machine/Operands.lean ====
section
/-! DEFINITION. Machine/Operands.lean: the operand helpers of spec/40_sequencer.md (rules R107 to R109). -/

namespace Sys2Proof.Machine

/-- `read8(r)` (rule R107): a register, or one bus read at `pair(HL)`. -/
def read8 (s : State) (r : Opd8) (k : Byte → State → Result) : Result :=
  match r with
  | .reg r => k (s.reg r) s
  | .atHL => memRead s (s.pair .hl) k

/-- `write8(r, v)` (rule R107): a register, or one bus write at `pair(HL)`. -/
def write8 (s : State) (r : Opd8) (v : Byte) (k : State → Result) : Result :=
  match r with
  | .reg r => k (s.setReg r v)
  | .atHL => memWrite s (s.pair .hl) v k

/-- `read16(rr)` (rule R108). -/
def State.wide (s : State) : Reg16 → Word
  | .bc => s.pair .bc
  | .de => s.pair .de
  | .hl => s.pair .hl
  | .sp => s.sp

/-- `write16(rr, w)` (rule R108). -/
def State.setWide (s : State) (rr : Reg16) (w : Word) : State :=
  match rr with
  | .bc => s.setPair .bc w
  | .de => s.setPair .de w
  | .hl => s.setPair .hl w
  | .sp => s.setSp w

/-- The pair that `LD rr,d16` loads (rule R205). -/
def wordPair : WordPair → Pair
  | .bc => .bc
  | .de => .de
  | .hl => .hl

/-- `cond(cc)` (rule R109). -/
def condHolds (f : Flags) : Cond → Bool
  | .nz => !f.z
  | .z => f.z
  | .nc => !f.c
  | .c => f.c

end Sys2Proof.Machine
end

