-- ==== Sys2Proof/Machine/Alu8.lean ====
section
/-! DEFINITION. Machine/Alu8.lean: ADD, ADC, SUB, SBC, AND, XOR, OR, CP with a register or `(HL)` operand
(spec/41_alu8.md) and with an immediate byte (tier G, spec/48_gk_ops.md rules R244 to R251). -/

namespace Sys2Proof.Machine

/-- The operation on A and `v`, then `PC <- PC + len`. -/
def aluApply (op : AluOp) (v : Byte) (len : Word) (s : State) : Result :=
  let out := aluOut op (s.reg .a) v s.flags.c
  advance len ((s.setReg .a out.acc).setFlags out.flags)

/-- The register and `(HL)` forms (rules R120 to R127). -/
def aluOperand (op : AluOp) (r : Opd8) (s : State) : Result :=
  read8 s r fun v s => aluApply op v 1 s

/-- ADD A,d8 (0xC6): rule R244. -/
def execAdd_A_d8 (v : Byte) (s : State) : Result :=
  gated 0xC6 "ADD A,d8" s (aluApply .add v 2 s)

/-- ADC A,d8 (0xCE): rule R245. -/
def execAdc_A_d8 (v : Byte) (s : State) : Result :=
  gated 0xCE "ADC A,d8" s (aluApply .adc v 2 s)

/-- SUB d8 (0xD6): rule R246. -/
def execSub_d8 (v : Byte) (s : State) : Result :=
  gated 0xD6 "SUB d8" s (aluApply .sub v 2 s)

/-- SBC A,d8 (0xDE): rule R247. -/
def execSbc_A_d8 (v : Byte) (s : State) : Result :=
  gated 0xDE "SBC A,d8" s (aluApply .sbc v 2 s)

/-- AND d8 (0xE6): rule R248. -/
def execAnd_d8 (v : Byte) (s : State) : Result :=
  gated 0xE6 "AND d8" s (aluApply .and v 2 s)

/-- XOR d8 (0xEE): rule R249. -/
def execXor_d8 (v : Byte) (s : State) : Result :=
  gated 0xEE "XOR d8" s (aluApply .xor v 2 s)

/-- OR d8 (0xF6): rule R250. -/
def execOr_d8 (v : Byte) (s : State) : Result :=
  gated 0xF6 "OR d8" s (aluApply .or v 2 s)

/-- CP d8 (0xFE): rule R251. -/
def execCp_d8 (v : Byte) (s : State) : Result :=
  gated 0xFE "CP d8" s (aluApply .cp v 2 s)

/-- ADD A,B (0x80): rule R120. -/
def execAdd_A_B (s : State) : Result :=
  aluOperand .add (.reg .b) s

/-- ADD A,C (0x81): rule R120. -/
def execAdd_A_C (s : State) : Result :=
  aluOperand .add (.reg .c) s

/-- ADD A,D (0x82): rule R120. -/
def execAdd_A_D (s : State) : Result :=
  aluOperand .add (.reg .d) s

/-- ADD A,E (0x83): rule R120. -/
def execAdd_A_E (s : State) : Result :=
  aluOperand .add (.reg .e) s

/-- ADD A,H (0x84): rule R120. -/
def execAdd_A_H (s : State) : Result :=
  aluOperand .add (.reg .h) s

/-- ADD A,L (0x85): rule R120. -/
def execAdd_A_L (s : State) : Result :=
  aluOperand .add (.reg .l) s

/-- ADD A,(HL) (0x86): rule R120. -/
def execAdd_A_atHL (s : State) : Result :=
  aluOperand .add .atHL s

/-- ADD A,A (0x87): rule R120. -/
def execAdd_A_A (s : State) : Result :=
  aluOperand .add (.reg .a) s

/-- ADC A,B (0x88): rule R121. -/
def execAdc_A_B (s : State) : Result :=
  aluOperand .adc (.reg .b) s

/-- ADC A,C (0x89): rule R121. -/
def execAdc_A_C (s : State) : Result :=
  aluOperand .adc (.reg .c) s

/-- ADC A,D (0x8A): rule R121. -/
def execAdc_A_D (s : State) : Result :=
  aluOperand .adc (.reg .d) s

/-- ADC A,E (0x8B): rule R121. -/
def execAdc_A_E (s : State) : Result :=
  aluOperand .adc (.reg .e) s

/-- ADC A,H (0x8C): rule R121. -/
def execAdc_A_H (s : State) : Result :=
  aluOperand .adc (.reg .h) s

/-- ADC A,L (0x8D): rule R121. -/
def execAdc_A_L (s : State) : Result :=
  aluOperand .adc (.reg .l) s

/-- ADC A,(HL) (0x8E): rule R121. -/
def execAdc_A_atHL (s : State) : Result :=
  aluOperand .adc .atHL s

/-- ADC A,A (0x8F): rule R121. -/
def execAdc_A_A (s : State) : Result :=
  aluOperand .adc (.reg .a) s

/-- SUB B (0x90): rule R122. -/
def execSub_B (s : State) : Result :=
  aluOperand .sub (.reg .b) s

/-- SUB C (0x91): rule R122. -/
def execSub_C (s : State) : Result :=
  aluOperand .sub (.reg .c) s

/-- SUB D (0x92): rule R122. -/
def execSub_D (s : State) : Result :=
  aluOperand .sub (.reg .d) s

/-- SUB E (0x93): rule R122. -/
def execSub_E (s : State) : Result :=
  aluOperand .sub (.reg .e) s

/-- SUB H (0x94): rule R122. -/
def execSub_H (s : State) : Result :=
  aluOperand .sub (.reg .h) s

/-- SUB L (0x95): rule R122. -/
def execSub_L (s : State) : Result :=
  aluOperand .sub (.reg .l) s

/-- SUB (HL) (0x96): rule R122. -/
def execSub_atHL (s : State) : Result :=
  aluOperand .sub .atHL s

/-- SUB A (0x97): rule R122. -/
def execSub_A (s : State) : Result :=
  aluOperand .sub (.reg .a) s

/-- SBC A,B (0x98): rule R123. -/
def execSbc_A_B (s : State) : Result :=
  aluOperand .sbc (.reg .b) s

/-- SBC A,C (0x99): rule R123. -/
def execSbc_A_C (s : State) : Result :=
  aluOperand .sbc (.reg .c) s

/-- SBC A,D (0x9A): rule R123. -/
def execSbc_A_D (s : State) : Result :=
  aluOperand .sbc (.reg .d) s

/-- SBC A,E (0x9B): rule R123. -/
def execSbc_A_E (s : State) : Result :=
  aluOperand .sbc (.reg .e) s

/-- SBC A,H (0x9C): rule R123. -/
def execSbc_A_H (s : State) : Result :=
  aluOperand .sbc (.reg .h) s

/-- SBC A,L (0x9D): rule R123. -/
def execSbc_A_L (s : State) : Result :=
  aluOperand .sbc (.reg .l) s

/-- SBC A,(HL) (0x9E): rule R123. -/
def execSbc_A_atHL (s : State) : Result :=
  aluOperand .sbc .atHL s

/-- SBC A,A (0x9F): rule R123. -/
def execSbc_A_A (s : State) : Result :=
  aluOperand .sbc (.reg .a) s

/-- AND B (0xA0): rule R124. -/
def execAnd_B (s : State) : Result :=
  aluOperand .and (.reg .b) s

/-- AND C (0xA1): rule R124. -/
def execAnd_C (s : State) : Result :=
  aluOperand .and (.reg .c) s

/-- AND D (0xA2): rule R124. -/
def execAnd_D (s : State) : Result :=
  aluOperand .and (.reg .d) s

/-- AND E (0xA3): rule R124. -/
def execAnd_E (s : State) : Result :=
  aluOperand .and (.reg .e) s

/-- AND H (0xA4): rule R124. -/
def execAnd_H (s : State) : Result :=
  aluOperand .and (.reg .h) s

/-- AND L (0xA5): rule R124. -/
def execAnd_L (s : State) : Result :=
  aluOperand .and (.reg .l) s

/-- AND (HL) (0xA6): rule R124. -/
def execAnd_atHL (s : State) : Result :=
  aluOperand .and .atHL s

/-- AND A (0xA7): rule R124. -/
def execAnd_A (s : State) : Result :=
  aluOperand .and (.reg .a) s

/-- XOR B (0xA8): rule R125. -/
def execXor_B (s : State) : Result :=
  aluOperand .xor (.reg .b) s

/-- XOR C (0xA9): rule R125. -/
def execXor_C (s : State) : Result :=
  aluOperand .xor (.reg .c) s

/-- XOR D (0xAA): rule R125. -/
def execXor_D (s : State) : Result :=
  aluOperand .xor (.reg .d) s

/-- XOR E (0xAB): rule R125. -/
def execXor_E (s : State) : Result :=
  aluOperand .xor (.reg .e) s

/-- XOR H (0xAC): rule R125. -/
def execXor_H (s : State) : Result :=
  aluOperand .xor (.reg .h) s

/-- XOR L (0xAD): rule R125. -/
def execXor_L (s : State) : Result :=
  aluOperand .xor (.reg .l) s

/-- XOR (HL) (0xAE): rule R125. -/
def execXor_atHL (s : State) : Result :=
  aluOperand .xor .atHL s

/-- XOR A (0xAF): rule R125. -/
def execXor_A (s : State) : Result :=
  aluOperand .xor (.reg .a) s

/-- OR B (0xB0): rule R126. -/
def execOr_B (s : State) : Result :=
  aluOperand .or (.reg .b) s

/-- OR C (0xB1): rule R126. -/
def execOr_C (s : State) : Result :=
  aluOperand .or (.reg .c) s

/-- OR D (0xB2): rule R126. -/
def execOr_D (s : State) : Result :=
  aluOperand .or (.reg .d) s

/-- OR E (0xB3): rule R126. -/
def execOr_E (s : State) : Result :=
  aluOperand .or (.reg .e) s

/-- OR H (0xB4): rule R126. -/
def execOr_H (s : State) : Result :=
  aluOperand .or (.reg .h) s

/-- OR L (0xB5): rule R126. -/
def execOr_L (s : State) : Result :=
  aluOperand .or (.reg .l) s

/-- OR (HL) (0xB6): rule R126. -/
def execOr_atHL (s : State) : Result :=
  aluOperand .or .atHL s

/-- OR A (0xB7): rule R126. -/
def execOr_A (s : State) : Result :=
  aluOperand .or (.reg .a) s

/-- CP B (0xB8): rule R127. -/
def execCp_B (s : State) : Result :=
  aluOperand .cp (.reg .b) s

/-- CP C (0xB9): rule R127. -/
def execCp_C (s : State) : Result :=
  aluOperand .cp (.reg .c) s

/-- CP D (0xBA): rule R127. -/
def execCp_D (s : State) : Result :=
  aluOperand .cp (.reg .d) s

/-- CP E (0xBB): rule R127. -/
def execCp_E (s : State) : Result :=
  aluOperand .cp (.reg .e) s

/-- CP H (0xBC): rule R127. -/
def execCp_H (s : State) : Result :=
  aluOperand .cp (.reg .h) s

/-- CP L (0xBD): rule R127. -/
def execCp_L (s : State) : Result :=
  aluOperand .cp (.reg .l) s

/-- CP (HL) (0xBE): rule R127. -/
def execCp_atHL (s : State) : Result :=
  aluOperand .cp .atHL s

/-- CP A (0xBF): rule R127. -/
def execCp_A (s : State) : Result :=
  aluOperand .cp (.reg .a) s

end Sys2Proof.Machine
end

