-- ==== Sys2Proof/Machine/Bit.lean ====
section
/-! DEFINITION. Machine/Bit.lean: BIT, RES and SET (spec/45_bit.md). -/

namespace Sys2Proof.Machine

/-- `BIT b,r`: the operand is read and not written (rule R180). -/
def testBit (b : Fin 8) (r : Opd8) (s : State) : Result :=
  read8 s r fun v s => advance 2 (s.setFlags (bitFlags s.flags b v))

/-- `RES b,r`: the write is unconditional (rule R181). -/
def resetBit (b : Fin 8) (r : Opd8) (s : State) : Result :=
  read8 s r fun v s => write8 s r (v &&& ~~~((1 : Byte) <<< b.val)) fun s => advance 2 s

/-- `SET b,r`: the write is unconditional (rule R182). -/
def setBit (b : Fin 8) (r : Opd8) (s : State) : Result :=
  read8 s r fun v s => write8 s r (v ||| ((1 : Byte) <<< b.val)) fun s => advance 2 s

/-- BIT 0,B (0xCB 0x40): rule R180. -/
def execBit_0_B (s : State) : Result :=
  testBit 0 (.reg .b) s

/-- BIT 0,C (0xCB 0x41): rule R180. -/
def execBit_0_C (s : State) : Result :=
  testBit 0 (.reg .c) s

/-- BIT 0,D (0xCB 0x42): rule R180. -/
def execBit_0_D (s : State) : Result :=
  testBit 0 (.reg .d) s

/-- BIT 0,E (0xCB 0x43): rule R180. -/
def execBit_0_E (s : State) : Result :=
  testBit 0 (.reg .e) s

/-- BIT 0,H (0xCB 0x44): rule R180. -/
def execBit_0_H (s : State) : Result :=
  testBit 0 (.reg .h) s

/-- BIT 0,L (0xCB 0x45): rule R180. -/
def execBit_0_L (s : State) : Result :=
  testBit 0 (.reg .l) s

/-- BIT 0,(HL) (0xCB 0x46): rule R180. -/
def execBit_0_atHL (s : State) : Result :=
  testBit 0 .atHL s

/-- BIT 0,A (0xCB 0x47): rule R180. -/
def execBit_0_A (s : State) : Result :=
  testBit 0 (.reg .a) s

/-- BIT 1,B (0xCB 0x48): rule R180. -/
def execBit_1_B (s : State) : Result :=
  testBit 1 (.reg .b) s

/-- BIT 1,C (0xCB 0x49): rule R180. -/
def execBit_1_C (s : State) : Result :=
  testBit 1 (.reg .c) s

/-- BIT 1,D (0xCB 0x4A): rule R180. -/
def execBit_1_D (s : State) : Result :=
  testBit 1 (.reg .d) s

/-- BIT 1,E (0xCB 0x4B): rule R180. -/
def execBit_1_E (s : State) : Result :=
  testBit 1 (.reg .e) s

/-- BIT 1,H (0xCB 0x4C): rule R180. -/
def execBit_1_H (s : State) : Result :=
  testBit 1 (.reg .h) s

/-- BIT 1,L (0xCB 0x4D): rule R180. -/
def execBit_1_L (s : State) : Result :=
  testBit 1 (.reg .l) s

/-- BIT 1,(HL) (0xCB 0x4E): rule R180. -/
def execBit_1_atHL (s : State) : Result :=
  testBit 1 .atHL s

/-- BIT 1,A (0xCB 0x4F): rule R180. -/
def execBit_1_A (s : State) : Result :=
  testBit 1 (.reg .a) s

/-- BIT 2,B (0xCB 0x50): rule R180. -/
def execBit_2_B (s : State) : Result :=
  testBit 2 (.reg .b) s

/-- BIT 2,C (0xCB 0x51): rule R180. -/
def execBit_2_C (s : State) : Result :=
  testBit 2 (.reg .c) s

/-- BIT 2,D (0xCB 0x52): rule R180. -/
def execBit_2_D (s : State) : Result :=
  testBit 2 (.reg .d) s

/-- BIT 2,E (0xCB 0x53): rule R180. -/
def execBit_2_E (s : State) : Result :=
  testBit 2 (.reg .e) s

/-- BIT 2,H (0xCB 0x54): rule R180. -/
def execBit_2_H (s : State) : Result :=
  testBit 2 (.reg .h) s

/-- BIT 2,L (0xCB 0x55): rule R180. -/
def execBit_2_L (s : State) : Result :=
  testBit 2 (.reg .l) s

/-- BIT 2,(HL) (0xCB 0x56): rule R180. -/
def execBit_2_atHL (s : State) : Result :=
  testBit 2 .atHL s

/-- BIT 2,A (0xCB 0x57): rule R180. -/
def execBit_2_A (s : State) : Result :=
  testBit 2 (.reg .a) s

/-- BIT 3,B (0xCB 0x58): rule R180. -/
def execBit_3_B (s : State) : Result :=
  testBit 3 (.reg .b) s

/-- BIT 3,C (0xCB 0x59): rule R180. -/
def execBit_3_C (s : State) : Result :=
  testBit 3 (.reg .c) s

/-- BIT 3,D (0xCB 0x5A): rule R180. -/
def execBit_3_D (s : State) : Result :=
  testBit 3 (.reg .d) s

/-- BIT 3,E (0xCB 0x5B): rule R180. -/
def execBit_3_E (s : State) : Result :=
  testBit 3 (.reg .e) s

/-- BIT 3,H (0xCB 0x5C): rule R180. -/
def execBit_3_H (s : State) : Result :=
  testBit 3 (.reg .h) s

/-- BIT 3,L (0xCB 0x5D): rule R180. -/
def execBit_3_L (s : State) : Result :=
  testBit 3 (.reg .l) s

/-- BIT 3,(HL) (0xCB 0x5E): rule R180. -/
def execBit_3_atHL (s : State) : Result :=
  testBit 3 .atHL s

/-- BIT 3,A (0xCB 0x5F): rule R180. -/
def execBit_3_A (s : State) : Result :=
  testBit 3 (.reg .a) s

/-- BIT 4,B (0xCB 0x60): rule R180. -/
def execBit_4_B (s : State) : Result :=
  testBit 4 (.reg .b) s

/-- BIT 4,C (0xCB 0x61): rule R180. -/
def execBit_4_C (s : State) : Result :=
  testBit 4 (.reg .c) s

/-- BIT 4,D (0xCB 0x62): rule R180. -/
def execBit_4_D (s : State) : Result :=
  testBit 4 (.reg .d) s

/-- BIT 4,E (0xCB 0x63): rule R180. -/
def execBit_4_E (s : State) : Result :=
  testBit 4 (.reg .e) s

/-- BIT 4,H (0xCB 0x64): rule R180. -/
def execBit_4_H (s : State) : Result :=
  testBit 4 (.reg .h) s

/-- BIT 4,L (0xCB 0x65): rule R180. -/
def execBit_4_L (s : State) : Result :=
  testBit 4 (.reg .l) s

/-- BIT 4,(HL) (0xCB 0x66): rule R180. -/
def execBit_4_atHL (s : State) : Result :=
  testBit 4 .atHL s

/-- BIT 4,A (0xCB 0x67): rule R180. -/
def execBit_4_A (s : State) : Result :=
  testBit 4 (.reg .a) s

/-- BIT 5,B (0xCB 0x68): rule R180. -/
def execBit_5_B (s : State) : Result :=
  testBit 5 (.reg .b) s

/-- BIT 5,C (0xCB 0x69): rule R180. -/
def execBit_5_C (s : State) : Result :=
  testBit 5 (.reg .c) s

/-- BIT 5,D (0xCB 0x6A): rule R180. -/
def execBit_5_D (s : State) : Result :=
  testBit 5 (.reg .d) s

/-- BIT 5,E (0xCB 0x6B): rule R180. -/
def execBit_5_E (s : State) : Result :=
  testBit 5 (.reg .e) s

/-- BIT 5,H (0xCB 0x6C): rule R180. -/
def execBit_5_H (s : State) : Result :=
  testBit 5 (.reg .h) s

/-- BIT 5,L (0xCB 0x6D): rule R180. -/
def execBit_5_L (s : State) : Result :=
  testBit 5 (.reg .l) s

/-- BIT 5,(HL) (0xCB 0x6E): rule R180. -/
def execBit_5_atHL (s : State) : Result :=
  testBit 5 .atHL s

/-- BIT 5,A (0xCB 0x6F): rule R180. -/
def execBit_5_A (s : State) : Result :=
  testBit 5 (.reg .a) s

/-- BIT 6,B (0xCB 0x70): rule R180. -/
def execBit_6_B (s : State) : Result :=
  testBit 6 (.reg .b) s

/-- BIT 6,C (0xCB 0x71): rule R180. -/
def execBit_6_C (s : State) : Result :=
  testBit 6 (.reg .c) s

/-- BIT 6,D (0xCB 0x72): rule R180. -/
def execBit_6_D (s : State) : Result :=
  testBit 6 (.reg .d) s

/-- BIT 6,E (0xCB 0x73): rule R180. -/
def execBit_6_E (s : State) : Result :=
  testBit 6 (.reg .e) s

/-- BIT 6,H (0xCB 0x74): rule R180. -/
def execBit_6_H (s : State) : Result :=
  testBit 6 (.reg .h) s

/-- BIT 6,L (0xCB 0x75): rule R180. -/
def execBit_6_L (s : State) : Result :=
  testBit 6 (.reg .l) s

/-- BIT 6,(HL) (0xCB 0x76): rule R180. -/
def execBit_6_atHL (s : State) : Result :=
  testBit 6 .atHL s

/-- BIT 6,A (0xCB 0x77): rule R180. -/
def execBit_6_A (s : State) : Result :=
  testBit 6 (.reg .a) s

/-- BIT 7,B (0xCB 0x78): rule R180. -/
def execBit_7_B (s : State) : Result :=
  testBit 7 (.reg .b) s

/-- BIT 7,C (0xCB 0x79): rule R180. -/
def execBit_7_C (s : State) : Result :=
  testBit 7 (.reg .c) s

/-- BIT 7,D (0xCB 0x7A): rule R180. -/
def execBit_7_D (s : State) : Result :=
  testBit 7 (.reg .d) s

/-- BIT 7,E (0xCB 0x7B): rule R180. -/
def execBit_7_E (s : State) : Result :=
  testBit 7 (.reg .e) s

/-- BIT 7,H (0xCB 0x7C): rule R180. -/
def execBit_7_H (s : State) : Result :=
  testBit 7 (.reg .h) s

/-- BIT 7,L (0xCB 0x7D): rule R180. -/
def execBit_7_L (s : State) : Result :=
  testBit 7 (.reg .l) s

/-- BIT 7,(HL) (0xCB 0x7E): rule R180. -/
def execBit_7_atHL (s : State) : Result :=
  testBit 7 .atHL s

/-- BIT 7,A (0xCB 0x7F): rule R180. -/
def execBit_7_A (s : State) : Result :=
  testBit 7 (.reg .a) s

/-- RES 0,B (0xCB 0x80): rule R181. -/
def execRes_0_B (s : State) : Result :=
  resetBit 0 (.reg .b) s

/-- RES 0,C (0xCB 0x81): rule R181. -/
def execRes_0_C (s : State) : Result :=
  resetBit 0 (.reg .c) s

/-- RES 0,D (0xCB 0x82): rule R181. -/
def execRes_0_D (s : State) : Result :=
  resetBit 0 (.reg .d) s

/-- RES 0,E (0xCB 0x83): rule R181. -/
def execRes_0_E (s : State) : Result :=
  resetBit 0 (.reg .e) s

/-- RES 0,H (0xCB 0x84): rule R181. -/
def execRes_0_H (s : State) : Result :=
  resetBit 0 (.reg .h) s

/-- RES 0,L (0xCB 0x85): rule R181. -/
def execRes_0_L (s : State) : Result :=
  resetBit 0 (.reg .l) s

/-- RES 0,(HL) (0xCB 0x86): rule R181. -/
def execRes_0_atHL (s : State) : Result :=
  resetBit 0 .atHL s

/-- RES 0,A (0xCB 0x87): rule R181. -/
def execRes_0_A (s : State) : Result :=
  resetBit 0 (.reg .a) s

/-- RES 1,B (0xCB 0x88): rule R181. -/
def execRes_1_B (s : State) : Result :=
  resetBit 1 (.reg .b) s

/-- RES 1,C (0xCB 0x89): rule R181. -/
def execRes_1_C (s : State) : Result :=
  resetBit 1 (.reg .c) s

/-- RES 1,D (0xCB 0x8A): rule R181. -/
def execRes_1_D (s : State) : Result :=
  resetBit 1 (.reg .d) s

/-- RES 1,E (0xCB 0x8B): rule R181. -/
def execRes_1_E (s : State) : Result :=
  resetBit 1 (.reg .e) s

/-- RES 1,H (0xCB 0x8C): rule R181. -/
def execRes_1_H (s : State) : Result :=
  resetBit 1 (.reg .h) s

/-- RES 1,L (0xCB 0x8D): rule R181. -/
def execRes_1_L (s : State) : Result :=
  resetBit 1 (.reg .l) s

/-- RES 1,(HL) (0xCB 0x8E): rule R181. -/
def execRes_1_atHL (s : State) : Result :=
  resetBit 1 .atHL s

/-- RES 1,A (0xCB 0x8F): rule R181. -/
def execRes_1_A (s : State) : Result :=
  resetBit 1 (.reg .a) s

/-- RES 2,B (0xCB 0x90): rule R181. -/
def execRes_2_B (s : State) : Result :=
  resetBit 2 (.reg .b) s

/-- RES 2,C (0xCB 0x91): rule R181. -/
def execRes_2_C (s : State) : Result :=
  resetBit 2 (.reg .c) s

/-- RES 2,D (0xCB 0x92): rule R181. -/
def execRes_2_D (s : State) : Result :=
  resetBit 2 (.reg .d) s

/-- RES 2,E (0xCB 0x93): rule R181. -/
def execRes_2_E (s : State) : Result :=
  resetBit 2 (.reg .e) s

/-- RES 2,H (0xCB 0x94): rule R181. -/
def execRes_2_H (s : State) : Result :=
  resetBit 2 (.reg .h) s

/-- RES 2,L (0xCB 0x95): rule R181. -/
def execRes_2_L (s : State) : Result :=
  resetBit 2 (.reg .l) s

/-- RES 2,(HL) (0xCB 0x96): rule R181. -/
def execRes_2_atHL (s : State) : Result :=
  resetBit 2 .atHL s

/-- RES 2,A (0xCB 0x97): rule R181. -/
def execRes_2_A (s : State) : Result :=
  resetBit 2 (.reg .a) s

/-- RES 3,B (0xCB 0x98): rule R181. -/
def execRes_3_B (s : State) : Result :=
  resetBit 3 (.reg .b) s

/-- RES 3,C (0xCB 0x99): rule R181. -/
def execRes_3_C (s : State) : Result :=
  resetBit 3 (.reg .c) s

/-- RES 3,D (0xCB 0x9A): rule R181. -/
def execRes_3_D (s : State) : Result :=
  resetBit 3 (.reg .d) s

/-- RES 3,E (0xCB 0x9B): rule R181. -/
def execRes_3_E (s : State) : Result :=
  resetBit 3 (.reg .e) s

/-- RES 3,H (0xCB 0x9C): rule R181. -/
def execRes_3_H (s : State) : Result :=
  resetBit 3 (.reg .h) s

/-- RES 3,L (0xCB 0x9D): rule R181. -/
def execRes_3_L (s : State) : Result :=
  resetBit 3 (.reg .l) s

/-- RES 3,(HL) (0xCB 0x9E): rule R181. -/
def execRes_3_atHL (s : State) : Result :=
  resetBit 3 .atHL s

/-- RES 3,A (0xCB 0x9F): rule R181. -/
def execRes_3_A (s : State) : Result :=
  resetBit 3 (.reg .a) s

/-- RES 4,B (0xCB 0xA0): rule R181. -/
def execRes_4_B (s : State) : Result :=
  resetBit 4 (.reg .b) s

/-- RES 4,C (0xCB 0xA1): rule R181. -/
def execRes_4_C (s : State) : Result :=
  resetBit 4 (.reg .c) s

/-- RES 4,D (0xCB 0xA2): rule R181. -/
def execRes_4_D (s : State) : Result :=
  resetBit 4 (.reg .d) s

/-- RES 4,E (0xCB 0xA3): rule R181. -/
def execRes_4_E (s : State) : Result :=
  resetBit 4 (.reg .e) s

/-- RES 4,H (0xCB 0xA4): rule R181. -/
def execRes_4_H (s : State) : Result :=
  resetBit 4 (.reg .h) s

/-- RES 4,L (0xCB 0xA5): rule R181. -/
def execRes_4_L (s : State) : Result :=
  resetBit 4 (.reg .l) s

/-- RES 4,(HL) (0xCB 0xA6): rule R181. -/
def execRes_4_atHL (s : State) : Result :=
  resetBit 4 .atHL s

/-- RES 4,A (0xCB 0xA7): rule R181. -/
def execRes_4_A (s : State) : Result :=
  resetBit 4 (.reg .a) s

/-- RES 5,B (0xCB 0xA8): rule R181. -/
def execRes_5_B (s : State) : Result :=
  resetBit 5 (.reg .b) s

/-- RES 5,C (0xCB 0xA9): rule R181. -/
def execRes_5_C (s : State) : Result :=
  resetBit 5 (.reg .c) s

/-- RES 5,D (0xCB 0xAA): rule R181. -/
def execRes_5_D (s : State) : Result :=
  resetBit 5 (.reg .d) s

/-- RES 5,E (0xCB 0xAB): rule R181. -/
def execRes_5_E (s : State) : Result :=
  resetBit 5 (.reg .e) s

/-- RES 5,H (0xCB 0xAC): rule R181. -/
def execRes_5_H (s : State) : Result :=
  resetBit 5 (.reg .h) s

/-- RES 5,L (0xCB 0xAD): rule R181. -/
def execRes_5_L (s : State) : Result :=
  resetBit 5 (.reg .l) s

/-- RES 5,(HL) (0xCB 0xAE): rule R181. -/
def execRes_5_atHL (s : State) : Result :=
  resetBit 5 .atHL s

/-- RES 5,A (0xCB 0xAF): rule R181. -/
def execRes_5_A (s : State) : Result :=
  resetBit 5 (.reg .a) s

/-- RES 6,B (0xCB 0xB0): rule R181. -/
def execRes_6_B (s : State) : Result :=
  resetBit 6 (.reg .b) s

/-- RES 6,C (0xCB 0xB1): rule R181. -/
def execRes_6_C (s : State) : Result :=
  resetBit 6 (.reg .c) s

/-- RES 6,D (0xCB 0xB2): rule R181. -/
def execRes_6_D (s : State) : Result :=
  resetBit 6 (.reg .d) s

/-- RES 6,E (0xCB 0xB3): rule R181. -/
def execRes_6_E (s : State) : Result :=
  resetBit 6 (.reg .e) s

/-- RES 6,H (0xCB 0xB4): rule R181. -/
def execRes_6_H (s : State) : Result :=
  resetBit 6 (.reg .h) s

/-- RES 6,L (0xCB 0xB5): rule R181. -/
def execRes_6_L (s : State) : Result :=
  resetBit 6 (.reg .l) s

/-- RES 6,(HL) (0xCB 0xB6): rule R181. -/
def execRes_6_atHL (s : State) : Result :=
  resetBit 6 .atHL s

/-- RES 6,A (0xCB 0xB7): rule R181. -/
def execRes_6_A (s : State) : Result :=
  resetBit 6 (.reg .a) s

/-- RES 7,B (0xCB 0xB8): rule R181. -/
def execRes_7_B (s : State) : Result :=
  resetBit 7 (.reg .b) s

/-- RES 7,C (0xCB 0xB9): rule R181. -/
def execRes_7_C (s : State) : Result :=
  resetBit 7 (.reg .c) s

/-- RES 7,D (0xCB 0xBA): rule R181. -/
def execRes_7_D (s : State) : Result :=
  resetBit 7 (.reg .d) s

/-- RES 7,E (0xCB 0xBB): rule R181. -/
def execRes_7_E (s : State) : Result :=
  resetBit 7 (.reg .e) s

/-- RES 7,H (0xCB 0xBC): rule R181. -/
def execRes_7_H (s : State) : Result :=
  resetBit 7 (.reg .h) s

/-- RES 7,L (0xCB 0xBD): rule R181. -/
def execRes_7_L (s : State) : Result :=
  resetBit 7 (.reg .l) s

/-- RES 7,(HL) (0xCB 0xBE): rule R181. -/
def execRes_7_atHL (s : State) : Result :=
  resetBit 7 .atHL s

/-- RES 7,A (0xCB 0xBF): rule R181. -/
def execRes_7_A (s : State) : Result :=
  resetBit 7 (.reg .a) s

/-- SET 0,B (0xCB 0xC0): rule R182. -/
def execSet_0_B (s : State) : Result :=
  setBit 0 (.reg .b) s

/-- SET 0,C (0xCB 0xC1): rule R182. -/
def execSet_0_C (s : State) : Result :=
  setBit 0 (.reg .c) s

/-- SET 0,D (0xCB 0xC2): rule R182. -/
def execSet_0_D (s : State) : Result :=
  setBit 0 (.reg .d) s

/-- SET 0,E (0xCB 0xC3): rule R182. -/
def execSet_0_E (s : State) : Result :=
  setBit 0 (.reg .e) s

/-- SET 0,H (0xCB 0xC4): rule R182. -/
def execSet_0_H (s : State) : Result :=
  setBit 0 (.reg .h) s

/-- SET 0,L (0xCB 0xC5): rule R182. -/
def execSet_0_L (s : State) : Result :=
  setBit 0 (.reg .l) s

/-- SET 0,(HL) (0xCB 0xC6): rule R182. -/
def execSet_0_atHL (s : State) : Result :=
  setBit 0 .atHL s

/-- SET 0,A (0xCB 0xC7): rule R182. -/
def execSet_0_A (s : State) : Result :=
  setBit 0 (.reg .a) s

/-- SET 1,B (0xCB 0xC8): rule R182. -/
def execSet_1_B (s : State) : Result :=
  setBit 1 (.reg .b) s

/-- SET 1,C (0xCB 0xC9): rule R182. -/
def execSet_1_C (s : State) : Result :=
  setBit 1 (.reg .c) s

/-- SET 1,D (0xCB 0xCA): rule R182. -/
def execSet_1_D (s : State) : Result :=
  setBit 1 (.reg .d) s

/-- SET 1,E (0xCB 0xCB): rule R182. -/
def execSet_1_E (s : State) : Result :=
  setBit 1 (.reg .e) s

/-- SET 1,H (0xCB 0xCC): rule R182. -/
def execSet_1_H (s : State) : Result :=
  setBit 1 (.reg .h) s

/-- SET 1,L (0xCB 0xCD): rule R182. -/
def execSet_1_L (s : State) : Result :=
  setBit 1 (.reg .l) s

/-- SET 1,(HL) (0xCB 0xCE): rule R182. -/
def execSet_1_atHL (s : State) : Result :=
  setBit 1 .atHL s

/-- SET 1,A (0xCB 0xCF): rule R182. -/
def execSet_1_A (s : State) : Result :=
  setBit 1 (.reg .a) s

/-- SET 2,B (0xCB 0xD0): rule R182. -/
def execSet_2_B (s : State) : Result :=
  setBit 2 (.reg .b) s

/-- SET 2,C (0xCB 0xD1): rule R182. -/
def execSet_2_C (s : State) : Result :=
  setBit 2 (.reg .c) s

/-- SET 2,D (0xCB 0xD2): rule R182. -/
def execSet_2_D (s : State) : Result :=
  setBit 2 (.reg .d) s

/-- SET 2,E (0xCB 0xD3): rule R182. -/
def execSet_2_E (s : State) : Result :=
  setBit 2 (.reg .e) s

/-- SET 2,H (0xCB 0xD4): rule R182. -/
def execSet_2_H (s : State) : Result :=
  setBit 2 (.reg .h) s

/-- SET 2,L (0xCB 0xD5): rule R182. -/
def execSet_2_L (s : State) : Result :=
  setBit 2 (.reg .l) s

/-- SET 2,(HL) (0xCB 0xD6): rule R182. -/
def execSet_2_atHL (s : State) : Result :=
  setBit 2 .atHL s

/-- SET 2,A (0xCB 0xD7): rule R182. -/
def execSet_2_A (s : State) : Result :=
  setBit 2 (.reg .a) s

/-- SET 3,B (0xCB 0xD8): rule R182. -/
def execSet_3_B (s : State) : Result :=
  setBit 3 (.reg .b) s

/-- SET 3,C (0xCB 0xD9): rule R182. -/
def execSet_3_C (s : State) : Result :=
  setBit 3 (.reg .c) s

/-- SET 3,D (0xCB 0xDA): rule R182. -/
def execSet_3_D (s : State) : Result :=
  setBit 3 (.reg .d) s

/-- SET 3,E (0xCB 0xDB): rule R182. -/
def execSet_3_E (s : State) : Result :=
  setBit 3 (.reg .e) s

/-- SET 3,H (0xCB 0xDC): rule R182. -/
def execSet_3_H (s : State) : Result :=
  setBit 3 (.reg .h) s

/-- SET 3,L (0xCB 0xDD): rule R182. -/
def execSet_3_L (s : State) : Result :=
  setBit 3 (.reg .l) s

/-- SET 3,(HL) (0xCB 0xDE): rule R182. -/
def execSet_3_atHL (s : State) : Result :=
  setBit 3 .atHL s

/-- SET 3,A (0xCB 0xDF): rule R182. -/
def execSet_3_A (s : State) : Result :=
  setBit 3 (.reg .a) s

/-- SET 4,B (0xCB 0xE0): rule R182. -/
def execSet_4_B (s : State) : Result :=
  setBit 4 (.reg .b) s

/-- SET 4,C (0xCB 0xE1): rule R182. -/
def execSet_4_C (s : State) : Result :=
  setBit 4 (.reg .c) s

/-- SET 4,D (0xCB 0xE2): rule R182. -/
def execSet_4_D (s : State) : Result :=
  setBit 4 (.reg .d) s

/-- SET 4,E (0xCB 0xE3): rule R182. -/
def execSet_4_E (s : State) : Result :=
  setBit 4 (.reg .e) s

/-- SET 4,H (0xCB 0xE4): rule R182. -/
def execSet_4_H (s : State) : Result :=
  setBit 4 (.reg .h) s

/-- SET 4,L (0xCB 0xE5): rule R182. -/
def execSet_4_L (s : State) : Result :=
  setBit 4 (.reg .l) s

/-- SET 4,(HL) (0xCB 0xE6): rule R182. -/
def execSet_4_atHL (s : State) : Result :=
  setBit 4 .atHL s

/-- SET 4,A (0xCB 0xE7): rule R182. -/
def execSet_4_A (s : State) : Result :=
  setBit 4 (.reg .a) s

/-- SET 5,B (0xCB 0xE8): rule R182. -/
def execSet_5_B (s : State) : Result :=
  setBit 5 (.reg .b) s

/-- SET 5,C (0xCB 0xE9): rule R182. -/
def execSet_5_C (s : State) : Result :=
  setBit 5 (.reg .c) s

/-- SET 5,D (0xCB 0xEA): rule R182. -/
def execSet_5_D (s : State) : Result :=
  setBit 5 (.reg .d) s

/-- SET 5,E (0xCB 0xEB): rule R182. -/
def execSet_5_E (s : State) : Result :=
  setBit 5 (.reg .e) s

/-- SET 5,H (0xCB 0xEC): rule R182. -/
def execSet_5_H (s : State) : Result :=
  setBit 5 (.reg .h) s

/-- SET 5,L (0xCB 0xED): rule R182. -/
def execSet_5_L (s : State) : Result :=
  setBit 5 (.reg .l) s

/-- SET 5,(HL) (0xCB 0xEE): rule R182. -/
def execSet_5_atHL (s : State) : Result :=
  setBit 5 .atHL s

/-- SET 5,A (0xCB 0xEF): rule R182. -/
def execSet_5_A (s : State) : Result :=
  setBit 5 (.reg .a) s

/-- SET 6,B (0xCB 0xF0): rule R182. -/
def execSet_6_B (s : State) : Result :=
  setBit 6 (.reg .b) s

/-- SET 6,C (0xCB 0xF1): rule R182. -/
def execSet_6_C (s : State) : Result :=
  setBit 6 (.reg .c) s

/-- SET 6,D (0xCB 0xF2): rule R182. -/
def execSet_6_D (s : State) : Result :=
  setBit 6 (.reg .d) s

/-- SET 6,E (0xCB 0xF3): rule R182. -/
def execSet_6_E (s : State) : Result :=
  setBit 6 (.reg .e) s

/-- SET 6,H (0xCB 0xF4): rule R182. -/
def execSet_6_H (s : State) : Result :=
  setBit 6 (.reg .h) s

/-- SET 6,L (0xCB 0xF5): rule R182. -/
def execSet_6_L (s : State) : Result :=
  setBit 6 (.reg .l) s

/-- SET 6,(HL) (0xCB 0xF6): rule R182. -/
def execSet_6_atHL (s : State) : Result :=
  setBit 6 .atHL s

/-- SET 6,A (0xCB 0xF7): rule R182. -/
def execSet_6_A (s : State) : Result :=
  setBit 6 (.reg .a) s

/-- SET 7,B (0xCB 0xF8): rule R182. -/
def execSet_7_B (s : State) : Result :=
  setBit 7 (.reg .b) s

/-- SET 7,C (0xCB 0xF9): rule R182. -/
def execSet_7_C (s : State) : Result :=
  setBit 7 (.reg .c) s

/-- SET 7,D (0xCB 0xFA): rule R182. -/
def execSet_7_D (s : State) : Result :=
  setBit 7 (.reg .d) s

/-- SET 7,E (0xCB 0xFB): rule R182. -/
def execSet_7_E (s : State) : Result :=
  setBit 7 (.reg .e) s

/-- SET 7,H (0xCB 0xFC): rule R182. -/
def execSet_7_H (s : State) : Result :=
  setBit 7 (.reg .h) s

/-- SET 7,L (0xCB 0xFD): rule R182. -/
def execSet_7_L (s : State) : Result :=
  setBit 7 (.reg .l) s

/-- SET 7,(HL) (0xCB 0xFE): rule R182. -/
def execSet_7_atHL (s : State) : Result :=
  setBit 7 .atHL s

/-- SET 7,A (0xCB 0xFF): rule R182. -/
def execSet_7_A (s : State) : Result :=
  setBit 7 (.reg .a) s

end Sys2Proof.Machine
end

