-- ==== Sys2Proof/Machine/Control.lean ====
section
/-! DEFINITION. Machine/Control.lean: the jumps (spec/46_control.md).  The operand of a conditional jump has been read
whether or not it is taken (rules R191, R193): it is part of the decoded instruction. -/

namespace Sys2Proof.Machine

/-- `PC <- target` (rules R190, R194). -/
def jumpTo (target : Word) (s : State) : Result := .next (s.setPc target)

/-- `JP cc,a16` (rule R191). -/
def jumpIf (cc : Cond) (target : Word) (s : State) : Result :=
  if condHolds s.flags cc then jumpTo target s else advance 3 s

/-- `JR e8` (rule R192): the displacement is two's complement and counts from the next instruction. -/
def jumpRel (e : Byte) (s : State) : Result := jumpTo (s.pc + 2 + sext16 e) s

/-- `JR cc,e8` (rule R193). -/
def jumpRelIf (cc : Cond) (e : Byte) (s : State) : Result :=
  if condHolds s.flags cc then jumpRel e s else advance 2 s

/-- JR e8 (0x18): rule R192. -/
def execJr_e8 (e : Byte) (s : State) : Result :=
  jumpRel e s

/-- JR NZ,e8 (0x20): rule R193. -/
def execJr_NZ_e8 (e : Byte) (s : State) : Result :=
  jumpRelIf .nz e s

/-- JR Z,e8 (0x28): rule R193. -/
def execJr_Z_e8 (e : Byte) (s : State) : Result :=
  jumpRelIf .z e s

/-- JR NC,e8 (0x30): rule R193. -/
def execJr_NC_e8 (e : Byte) (s : State) : Result :=
  jumpRelIf .nc e s

/-- JR C,e8 (0x38): rule R193. -/
def execJr_C_e8 (e : Byte) (s : State) : Result :=
  jumpRelIf .c e s

/-- JP NZ,a16 (0xC2): rule R191. -/
def execJp_NZ_a16 (w : Word) (s : State) : Result :=
  jumpIf .nz w s

/-- JP a16 (0xC3): rule R190. -/
def execJp_a16 (w : Word) (s : State) : Result :=
  jumpTo w s

/-- JP Z,a16 (0xCA): rule R191. -/
def execJp_Z_a16 (w : Word) (s : State) : Result :=
  jumpIf .z w s

/-- JP NC,a16 (0xD2): rule R191. -/
def execJp_NC_a16 (w : Word) (s : State) : Result :=
  jumpIf .nc w s

/-- JP C,a16 (0xDA): rule R191. -/
def execJp_C_a16 (w : Word) (s : State) : Result :=
  jumpIf .c w s

/-- JP HL (0xE9): rule R194. -/
def execJp_HL (s : State) : Result :=
  jumpTo (s.pair .hl) s

end Sys2Proof.Machine
end

