-- ==== Sys2Proof/Machine/Rotate.lean ====
section
/-! DEFINITION. Machine/Rotate.lean: the accumulator rotates and the extended rotates, shifts and SWAP
(spec/44_rotate_shift.md). -/

namespace Sys2Proof.Machine

/-- The accumulator forms RLCA, RRCA, RLA, RRA: Z is always cleared (rules R160 to R163). -/
def rotateA (op : RotOp) (s : State) : Result :=
  let out := rotOut op (s.reg .a) s.flags.c
  advance 1 ((s.setReg .a out.1).setFlags { z := false, n := false, h := false, c := out.2 })

/-- The extended forms: Z from the result (rules R164 to R171). -/
def rotateOperand (op : RotOp) (r : Opd8) (s : State) : Result :=
  read8 s r fun v s =>
    let out := rotOut op v s.flags.c
    write8 s r out.1 fun s => advance 2 (s.setFlags { z := out.1 == 0, n := false, h := false, c := out.2 })

/-- RLCA (0x07): rule R160. -/
def execRlca (s : State) : Result :=
  rotateA .rlc s

/-- RRCA (0x0F): rule R161. -/
def execRrca (s : State) : Result :=
  rotateA .rrc s

/-- RLA (0x17): rule R162. -/
def execRla (s : State) : Result :=
  rotateA .rl s

/-- RRA (0x1F): rule R163. -/
def execRra (s : State) : Result :=
  rotateA .rr s

/-- RLC B (0xCB 0x00): rule R164. -/
def execRlc_B (s : State) : Result :=
  rotateOperand .rlc (.reg .b) s

/-- RLC C (0xCB 0x01): rule R164. -/
def execRlc_C (s : State) : Result :=
  rotateOperand .rlc (.reg .c) s

/-- RLC D (0xCB 0x02): rule R164. -/
def execRlc_D (s : State) : Result :=
  rotateOperand .rlc (.reg .d) s

/-- RLC E (0xCB 0x03): rule R164. -/
def execRlc_E (s : State) : Result :=
  rotateOperand .rlc (.reg .e) s

/-- RLC H (0xCB 0x04): rule R164. -/
def execRlc_H (s : State) : Result :=
  rotateOperand .rlc (.reg .h) s

/-- RLC L (0xCB 0x05): rule R164. -/
def execRlc_L (s : State) : Result :=
  rotateOperand .rlc (.reg .l) s

/-- RLC (HL) (0xCB 0x06): rule R164. -/
def execRlc_atHL (s : State) : Result :=
  rotateOperand .rlc .atHL s

/-- RLC A (0xCB 0x07): rule R164. -/
def execRlc_A (s : State) : Result :=
  rotateOperand .rlc (.reg .a) s

/-- RRC B (0xCB 0x08): rule R165. -/
def execRrc_B (s : State) : Result :=
  rotateOperand .rrc (.reg .b) s

/-- RRC C (0xCB 0x09): rule R165. -/
def execRrc_C (s : State) : Result :=
  rotateOperand .rrc (.reg .c) s

/-- RRC D (0xCB 0x0A): rule R165. -/
def execRrc_D (s : State) : Result :=
  rotateOperand .rrc (.reg .d) s

/-- RRC E (0xCB 0x0B): rule R165. -/
def execRrc_E (s : State) : Result :=
  rotateOperand .rrc (.reg .e) s

/-- RRC H (0xCB 0x0C): rule R165. -/
def execRrc_H (s : State) : Result :=
  rotateOperand .rrc (.reg .h) s

/-- RRC L (0xCB 0x0D): rule R165. -/
def execRrc_L (s : State) : Result :=
  rotateOperand .rrc (.reg .l) s

/-- RRC (HL) (0xCB 0x0E): rule R165. -/
def execRrc_atHL (s : State) : Result :=
  rotateOperand .rrc .atHL s

/-- RRC A (0xCB 0x0F): rule R165. -/
def execRrc_A (s : State) : Result :=
  rotateOperand .rrc (.reg .a) s

/-- RL B (0xCB 0x10): rule R166. -/
def execRl_B (s : State) : Result :=
  rotateOperand .rl (.reg .b) s

/-- RL C (0xCB 0x11): rule R166. -/
def execRl_C (s : State) : Result :=
  rotateOperand .rl (.reg .c) s

/-- RL D (0xCB 0x12): rule R166. -/
def execRl_D (s : State) : Result :=
  rotateOperand .rl (.reg .d) s

/-- RL E (0xCB 0x13): rule R166. -/
def execRl_E (s : State) : Result :=
  rotateOperand .rl (.reg .e) s

/-- RL H (0xCB 0x14): rule R166. -/
def execRl_H (s : State) : Result :=
  rotateOperand .rl (.reg .h) s

/-- RL L (0xCB 0x15): rule R166. -/
def execRl_L (s : State) : Result :=
  rotateOperand .rl (.reg .l) s

/-- RL (HL) (0xCB 0x16): rule R166. -/
def execRl_atHL (s : State) : Result :=
  rotateOperand .rl .atHL s

/-- RL A (0xCB 0x17): rule R166. -/
def execRl_A (s : State) : Result :=
  rotateOperand .rl (.reg .a) s

/-- RR B (0xCB 0x18): rule R167. -/
def execRr_B (s : State) : Result :=
  rotateOperand .rr (.reg .b) s

/-- RR C (0xCB 0x19): rule R167. -/
def execRr_C (s : State) : Result :=
  rotateOperand .rr (.reg .c) s

/-- RR D (0xCB 0x1A): rule R167. -/
def execRr_D (s : State) : Result :=
  rotateOperand .rr (.reg .d) s

/-- RR E (0xCB 0x1B): rule R167. -/
def execRr_E (s : State) : Result :=
  rotateOperand .rr (.reg .e) s

/-- RR H (0xCB 0x1C): rule R167. -/
def execRr_H (s : State) : Result :=
  rotateOperand .rr (.reg .h) s

/-- RR L (0xCB 0x1D): rule R167. -/
def execRr_L (s : State) : Result :=
  rotateOperand .rr (.reg .l) s

/-- RR (HL) (0xCB 0x1E): rule R167. -/
def execRr_atHL (s : State) : Result :=
  rotateOperand .rr .atHL s

/-- RR A (0xCB 0x1F): rule R167. -/
def execRr_A (s : State) : Result :=
  rotateOperand .rr (.reg .a) s

/-- SLA B (0xCB 0x20): rule R168. -/
def execSla_B (s : State) : Result :=
  rotateOperand .sla (.reg .b) s

/-- SLA C (0xCB 0x21): rule R168. -/
def execSla_C (s : State) : Result :=
  rotateOperand .sla (.reg .c) s

/-- SLA D (0xCB 0x22): rule R168. -/
def execSla_D (s : State) : Result :=
  rotateOperand .sla (.reg .d) s

/-- SLA E (0xCB 0x23): rule R168. -/
def execSla_E (s : State) : Result :=
  rotateOperand .sla (.reg .e) s

/-- SLA H (0xCB 0x24): rule R168. -/
def execSla_H (s : State) : Result :=
  rotateOperand .sla (.reg .h) s

/-- SLA L (0xCB 0x25): rule R168. -/
def execSla_L (s : State) : Result :=
  rotateOperand .sla (.reg .l) s

/-- SLA (HL) (0xCB 0x26): rule R168. -/
def execSla_atHL (s : State) : Result :=
  rotateOperand .sla .atHL s

/-- SLA A (0xCB 0x27): rule R168. -/
def execSla_A (s : State) : Result :=
  rotateOperand .sla (.reg .a) s

/-- SRA B (0xCB 0x28): rule R169. -/
def execSra_B (s : State) : Result :=
  rotateOperand .sra (.reg .b) s

/-- SRA C (0xCB 0x29): rule R169. -/
def execSra_C (s : State) : Result :=
  rotateOperand .sra (.reg .c) s

/-- SRA D (0xCB 0x2A): rule R169. -/
def execSra_D (s : State) : Result :=
  rotateOperand .sra (.reg .d) s

/-- SRA E (0xCB 0x2B): rule R169. -/
def execSra_E (s : State) : Result :=
  rotateOperand .sra (.reg .e) s

/-- SRA H (0xCB 0x2C): rule R169. -/
def execSra_H (s : State) : Result :=
  rotateOperand .sra (.reg .h) s

/-- SRA L (0xCB 0x2D): rule R169. -/
def execSra_L (s : State) : Result :=
  rotateOperand .sra (.reg .l) s

/-- SRA (HL) (0xCB 0x2E): rule R169. -/
def execSra_atHL (s : State) : Result :=
  rotateOperand .sra .atHL s

/-- SRA A (0xCB 0x2F): rule R169. -/
def execSra_A (s : State) : Result :=
  rotateOperand .sra (.reg .a) s

/-- SWAP B (0xCB 0x30): rule R170. -/
def execSwap_B (s : State) : Result :=
  rotateOperand .swap (.reg .b) s

/-- SWAP C (0xCB 0x31): rule R170. -/
def execSwap_C (s : State) : Result :=
  rotateOperand .swap (.reg .c) s

/-- SWAP D (0xCB 0x32): rule R170. -/
def execSwap_D (s : State) : Result :=
  rotateOperand .swap (.reg .d) s

/-- SWAP E (0xCB 0x33): rule R170. -/
def execSwap_E (s : State) : Result :=
  rotateOperand .swap (.reg .e) s

/-- SWAP H (0xCB 0x34): rule R170. -/
def execSwap_H (s : State) : Result :=
  rotateOperand .swap (.reg .h) s

/-- SWAP L (0xCB 0x35): rule R170. -/
def execSwap_L (s : State) : Result :=
  rotateOperand .swap (.reg .l) s

/-- SWAP (HL) (0xCB 0x36): rule R170. -/
def execSwap_atHL (s : State) : Result :=
  rotateOperand .swap .atHL s

/-- SWAP A (0xCB 0x37): rule R170. -/
def execSwap_A (s : State) : Result :=
  rotateOperand .swap (.reg .a) s

/-- SRL B (0xCB 0x38): rule R171. -/
def execSrl_B (s : State) : Result :=
  rotateOperand .srl (.reg .b) s

/-- SRL C (0xCB 0x39): rule R171. -/
def execSrl_C (s : State) : Result :=
  rotateOperand .srl (.reg .c) s

/-- SRL D (0xCB 0x3A): rule R171. -/
def execSrl_D (s : State) : Result :=
  rotateOperand .srl (.reg .d) s

/-- SRL E (0xCB 0x3B): rule R171. -/
def execSrl_E (s : State) : Result :=
  rotateOperand .srl (.reg .e) s

/-- SRL H (0xCB 0x3C): rule R171. -/
def execSrl_H (s : State) : Result :=
  rotateOperand .srl (.reg .h) s

/-- SRL L (0xCB 0x3D): rule R171. -/
def execSrl_L (s : State) : Result :=
  rotateOperand .srl (.reg .l) s

/-- SRL (HL) (0xCB 0x3E): rule R171. -/
def execSrl_atHL (s : State) : Result :=
  rotateOperand .srl .atHL s

/-- SRL A (0xCB 0x3F): rule R171. -/
def execSrl_A (s : State) : Result :=
  rotateOperand .srl (.reg .a) s

end Sys2Proof.Machine
end

