-- ==== Sys2Proof/Machine/Extended.lean ====
section
/-! DEFINITION. Machine/Extended.lean: the meaning of the opcode table's prefix row, by the fields x, y, z of the second
byte (spec/30_encoding.md rule R77).  The decoder never answers it: it answers the row of the second byte. -/

namespace Sys2Proof.Machine

/-- The extended instruction whose second byte is `b` (rule R77). -/
def runExtended (b : Byte) (s : State) : Result :=
  let y : Fin 8 := (b.extractLsb' 3 3).toFin
  let r := Opd8.ofCode (b.extractLsb' 0 3).toNat
  match (b.extractLsb' 6 2).toNat with
  | 0 => rotateOperand (RotOp.ofCode y.val) r s
  | 1 => testBit y r s
  | 2 => resetBit y r s
  | _ => setBit y r s

/-- (prefix CB) (0xCB): rule R77. -/
def execPrefixCB (second : Byte) (s : State) : Result :=
  runExtended second s

end Sys2Proof.Machine
end

