-- ==== Sys2Proof/Machine/FlagOps.lean ====
section
/-! DEFINITION. Machine/FlagOps.lean: CCF, SCF and CPL (spec/43_flag_ops.md). -/

namespace Sys2Proof.Machine

/-- `CCF` (rule R150). -/
def complementCarry (s : State) : Result :=
  advance 1 (s.setFlags { s.flags with c := !s.flags.c, n := false, h := false })

/-- `SCF` (rule R151). -/
def setCarry (s : State) : Result := advance 1 (s.setFlags { s.flags with c := true, n := false, h := false })

/-- `CPL` (rule R152). -/
def complementA (s : State) : Result :=
  advance 1 ((s.setReg .a (~~~ s.reg .a)).setFlags { s.flags with n := true, h := true })

/-- CPL (0x2F): rule R152. -/
def execCpl (s : State) : Result :=
  complementA s

/-- SCF (0x37): rule R151. -/
def execScf (s : State) : Result :=
  setCarry s

/-- CCF (0x3F): rule R150. -/
def execCcf (s : State) : Result :=
  complementCarry s

end Sys2Proof.Machine
end

