-- ==== Sys2Proof/Machine/IncDec.lean ====
section
/-! DEFINITION. Machine/IncDec.lean: INC and DEC, 8-bit and 16-bit, and ADD HL,rr (spec/42_incdec_add16.md). -/

namespace Sys2Proof.Machine

/-- `INC r` (rule R140). -/
def incOperand (r : Opd8) (s : State) : Result :=
  read8 s r fun v s => write8 s r (v + 1) fun s => advance 1 (s.setFlags (incFlags s.flags v))

/-- `DEC r` (rule R141). -/
def decOperand (r : Opd8) (s : State) : Result :=
  read8 s r fun v s => write8 s r (v - 1) fun s => advance 1 (s.setFlags (decFlags s.flags v))

/-- `INC rr` (rule R142). -/
def incWide (rr : Reg16) (s : State) : Result := advance 1 (s.setWide rr (s.wide rr + 1))

/-- `DEC rr` (rule R143). -/
def decWide (rr : Reg16) (s : State) : Result := advance 1 (s.setWide rr (s.wide rr - 1))

/-- `ADD HL,rr` (rule R144). -/
def addHl (rr : Reg16) (s : State) : Result :=
  let hl := s.pair .hl
  let v := s.wide rr
  advance 1 ((s.setPair .hl (hl + v)).setFlags (addHlFlags s.flags hl v))

/-- INC BC (0x03): rule R142. -/
def execInc_BC (s : State) : Result :=
  incWide .bc s

/-- INC B (0x04): rule R140. -/
def execInc_B (s : State) : Result :=
  incOperand (.reg .b) s

/-- DEC B (0x05): rule R141. -/
def execDec_B (s : State) : Result :=
  decOperand (.reg .b) s

/-- ADD HL,BC (0x09): rule R144. -/
def execAdd_HL_BC (s : State) : Result :=
  addHl .bc s

/-- DEC BC (0x0B): rule R143. -/
def execDec_BC (s : State) : Result :=
  decWide .bc s

/-- INC C (0x0C): rule R140. -/
def execInc_C (s : State) : Result :=
  incOperand (.reg .c) s

/-- DEC C (0x0D): rule R141. -/
def execDec_C (s : State) : Result :=
  decOperand (.reg .c) s

/-- INC DE (0x13): rule R142. -/
def execInc_DE (s : State) : Result :=
  incWide .de s

/-- INC D (0x14): rule R140. -/
def execInc_D (s : State) : Result :=
  incOperand (.reg .d) s

/-- DEC D (0x15): rule R141. -/
def execDec_D (s : State) : Result :=
  decOperand (.reg .d) s

/-- ADD HL,DE (0x19): rule R144. -/
def execAdd_HL_DE (s : State) : Result :=
  addHl .de s

/-- DEC DE (0x1B): rule R143. -/
def execDec_DE (s : State) : Result :=
  decWide .de s

/-- INC E (0x1C): rule R140. -/
def execInc_E (s : State) : Result :=
  incOperand (.reg .e) s

/-- DEC E (0x1D): rule R141. -/
def execDec_E (s : State) : Result :=
  decOperand (.reg .e) s

/-- INC HL (0x23): rule R142. -/
def execInc_HL (s : State) : Result :=
  incWide .hl s

/-- INC H (0x24): rule R140. -/
def execInc_H (s : State) : Result :=
  incOperand (.reg .h) s

/-- DEC H (0x25): rule R141. -/
def execDec_H (s : State) : Result :=
  decOperand (.reg .h) s

/-- ADD HL,HL (0x29): rule R144. -/
def execAdd_HL_HL (s : State) : Result :=
  addHl .hl s

/-- DEC HL (0x2B): rule R143. -/
def execDec_HL (s : State) : Result :=
  decWide .hl s

/-- INC L (0x2C): rule R140. -/
def execInc_L (s : State) : Result :=
  incOperand (.reg .l) s

/-- DEC L (0x2D): rule R141. -/
def execDec_L (s : State) : Result :=
  decOperand (.reg .l) s

/-- INC SP (0x33): rule R142. -/
def execInc_SP (s : State) : Result :=
  incWide .sp s

/-- INC (HL) (0x34): rule R140. -/
def execInc_atHL (s : State) : Result :=
  incOperand .atHL s

/-- DEC (HL) (0x35): rule R141. -/
def execDec_atHL (s : State) : Result :=
  decOperand .atHL s

/-- ADD HL,SP (0x39): rule R144. -/
def execAdd_HL_SP (s : State) : Result :=
  addHl .sp s

/-- DEC SP (0x3B): rule R143. -/
def execDec_SP (s : State) : Result :=
  decWide .sp s

/-- INC A (0x3C): rule R140. -/
def execInc_A (s : State) : Result :=
  incOperand (.reg .a) s

/-- DEC A (0x3D): rule R141. -/
def execDec_A (s : State) : Result :=
  decOperand (.reg .a) s

end Sys2Proof.Machine
end

