-- ==== Sys2Proof/Machine/Loads.lean ====
section
/-! DEFINITION. Machine/Loads.lean: the load forms of spec/47_loads.md.  No load writes a flag. -/

namespace Sys2Proof.Machine

/-- `LD r,r'` (rule R200). -/
def loadReg (r r' : Reg8) (s : State) : Result := advance 1 (s.setReg r (s.reg r'))

/-- `LD r,d8` (rule R203). -/
def loadImm (r : Reg8) (v : Byte) (s : State) : Result := advance 2 (s.setReg r v)

/-- `LD rr,d16` (rule R205). -/
def loadWord (p : Pair) (w : Word) (s : State) : Result := advance 3 (s.setPair p w)

/-- A register loaded from the byte at `addr`, for an instruction of length `len`. -/
def loadFrom (r : Reg8) (addr len : Word) (s : State) : Result :=
  memRead s addr fun v s => advance len (s.setReg r v)

/-- A byte stored at `addr`, for an instruction of length `len`. -/
def storeTo (addr : Word) (v : Byte) (len : Word) (s : State) : Result :=
  memWrite s addr v fun s => advance len s

/-- `LD A,(HL+)` and `LD A,(HL-)`: the access is at the old HL (rules R210, R211). -/
def loadAndStep (delta : Word) (s : State) : Result :=
  let addr := s.pair .hl
  memRead s addr fun v s => advance 1 ((s.setReg .a v).setPair .hl (addr + delta))

/-- `LD (HL+),A` and `LD (HL-),A`: the access is at the old HL (rules R212, R213). -/
def storeAndStep (delta : Word) (s : State) : Result :=
  let addr := s.pair .hl
  memWrite s addr (s.reg .a) fun s => advance 1 (s.setPair .hl (addr + delta))

/-- LD BC,d16 (0x01): rule R205. -/
def execLd_BC_d16 (w : Word) (s : State) : Result :=
  loadWord .bc w s

/-- LD B,d8 (0x06): rule R203. -/
def execLd_B_d8 (v : Byte) (s : State) : Result :=
  loadImm .b v s

/-- LD C,d8 (0x0E): rule R203. -/
def execLd_C_d8 (v : Byte) (s : State) : Result :=
  loadImm .c v s

/-- LD DE,d16 (0x11): rule R205. -/
def execLd_DE_d16 (w : Word) (s : State) : Result :=
  loadWord .de w s

/-- LD D,d8 (0x16): rule R203. -/
def execLd_D_d8 (v : Byte) (s : State) : Result :=
  loadImm .d v s

/-- LD E,d8 (0x1E): rule R203. -/
def execLd_E_d8 (v : Byte) (s : State) : Result :=
  loadImm .e v s

/-- LD HL,d16 (0x21): rule R205. -/
def execLd_HL_d16 (w : Word) (s : State) : Result :=
  loadWord .hl w s

/-- LD H,d8 (0x26): rule R203. -/
def execLd_H_d8 (v : Byte) (s : State) : Result :=
  loadImm .h v s

/-- LD L,d8 (0x2E): rule R203. -/
def execLd_L_d8 (v : Byte) (s : State) : Result :=
  loadImm .l v s

/-- LD (HL),d8 (0x36): rule R204. -/
def execLd_atHL_d8 (v : Byte) (s : State) : Result :=
  storeTo (s.pair .hl) v 2 s

/-- LD A,d8 (0x3E): rule R203. -/
def execLd_A_d8 (v : Byte) (s : State) : Result :=
  loadImm .a v s

/-- LDH (a8),A (0xE0): rule R219. -/
def execLdh_at_a8_A (n : Byte) (s : State) : Result :=
  storeTo (highPage n) (s.reg .a) 2 s

/-- LD (a16),A (0xEA): rule R215. -/
def execLd_at_a16_A (w : Word) (s : State) : Result :=
  storeTo w (s.reg .a) 3 s

/-- LDH A,(a8) (0xF0): rule R218. -/
def execLdh_A_at_a8 (n : Byte) (s : State) : Result :=
  loadFrom .a (highPage n) 2 s

/-- LD A,(a16) (0xFA): rule R214. -/
def execLd_A_at_a16 (w : Word) (s : State) : Result :=
  loadFrom .a w 3 s

/-- LD (BC),A (0x02): rule R208. -/
def execLd_atBC_A (s : State) : Result :=
  storeTo (s.pair .bc) (s.reg .a) 1 s

/-- LD A,(BC) (0x0A): rule R206. -/
def execLd_A_atBC (s : State) : Result :=
  loadFrom .a (s.pair .bc) 1 s

/-- LD (DE),A (0x12): rule R209. -/
def execLd_atDE_A (s : State) : Result :=
  storeTo (s.pair .de) (s.reg .a) 1 s

/-- LD A,(DE) (0x1A): rule R207. -/
def execLd_A_atDE (s : State) : Result :=
  loadFrom .a (s.pair .de) 1 s

/-- LD (HL+),A (0x22): rule R212. -/
def execLd_atHLinc_A (s : State) : Result :=
  storeAndStep 1 s

/-- LD A,(HL+) (0x2A): rule R210. -/
def execLd_A_atHLinc (s : State) : Result :=
  loadAndStep 1 s

/-- LD (HL-),A (0x32): rule R213. -/
def execLd_atHLdec_A (s : State) : Result :=
  storeAndStep (-1) s

/-- LD A,(HL-) (0x3A): rule R211. -/
def execLd_A_atHLdec (s : State) : Result :=
  loadAndStep (-1) s

/-- LD B,B (0x40): rule R200. -/
def execLd_B_B (s : State) : Result :=
  loadReg .b .b s

/-- LD B,C (0x41): rule R200. -/
def execLd_B_C (s : State) : Result :=
  loadReg .b .c s

/-- LD B,D (0x42): rule R200. -/
def execLd_B_D (s : State) : Result :=
  loadReg .b .d s

/-- LD B,E (0x43): rule R200. -/
def execLd_B_E (s : State) : Result :=
  loadReg .b .e s

/-- LD B,H (0x44): rule R200. -/
def execLd_B_H (s : State) : Result :=
  loadReg .b .h s

/-- LD B,L (0x45): rule R200. -/
def execLd_B_L (s : State) : Result :=
  loadReg .b .l s

/-- LD B,(HL) (0x46): rule R201. -/
def execLd_B_atHL (s : State) : Result :=
  loadFrom .b (s.pair .hl) 1 s

/-- LD B,A (0x47): rule R200. -/
def execLd_B_A (s : State) : Result :=
  loadReg .b .a s

/-- LD C,B (0x48): rule R200. -/
def execLd_C_B (s : State) : Result :=
  loadReg .c .b s

/-- LD C,C (0x49): rule R200. -/
def execLd_C_C (s : State) : Result :=
  loadReg .c .c s

/-- LD C,D (0x4A): rule R200. -/
def execLd_C_D (s : State) : Result :=
  loadReg .c .d s

/-- LD C,E (0x4B): rule R200. -/
def execLd_C_E (s : State) : Result :=
  loadReg .c .e s

/-- LD C,H (0x4C): rule R200. -/
def execLd_C_H (s : State) : Result :=
  loadReg .c .h s

/-- LD C,L (0x4D): rule R200. -/
def execLd_C_L (s : State) : Result :=
  loadReg .c .l s

/-- LD C,(HL) (0x4E): rule R201. -/
def execLd_C_atHL (s : State) : Result :=
  loadFrom .c (s.pair .hl) 1 s

/-- LD C,A (0x4F): rule R200. -/
def execLd_C_A (s : State) : Result :=
  loadReg .c .a s

/-- LD D,B (0x50): rule R200. -/
def execLd_D_B (s : State) : Result :=
  loadReg .d .b s

/-- LD D,C (0x51): rule R200. -/
def execLd_D_C (s : State) : Result :=
  loadReg .d .c s

/-- LD D,D (0x52): rule R200. -/
def execLd_D_D (s : State) : Result :=
  loadReg .d .d s

/-- LD D,E (0x53): rule R200. -/
def execLd_D_E (s : State) : Result :=
  loadReg .d .e s

/-- LD D,H (0x54): rule R200. -/
def execLd_D_H (s : State) : Result :=
  loadReg .d .h s

/-- LD D,L (0x55): rule R200. -/
def execLd_D_L (s : State) : Result :=
  loadReg .d .l s

/-- LD D,(HL) (0x56): rule R201. -/
def execLd_D_atHL (s : State) : Result :=
  loadFrom .d (s.pair .hl) 1 s

/-- LD D,A (0x57): rule R200. -/
def execLd_D_A (s : State) : Result :=
  loadReg .d .a s

/-- LD E,B (0x58): rule R200. -/
def execLd_E_B (s : State) : Result :=
  loadReg .e .b s

/-- LD E,C (0x59): rule R200. -/
def execLd_E_C (s : State) : Result :=
  loadReg .e .c s

/-- LD E,D (0x5A): rule R200. -/
def execLd_E_D (s : State) : Result :=
  loadReg .e .d s

/-- LD E,E (0x5B): rule R200. -/
def execLd_E_E (s : State) : Result :=
  loadReg .e .e s

/-- LD E,H (0x5C): rule R200. -/
def execLd_E_H (s : State) : Result :=
  loadReg .e .h s

/-- LD E,L (0x5D): rule R200. -/
def execLd_E_L (s : State) : Result :=
  loadReg .e .l s

/-- LD E,(HL) (0x5E): rule R201. -/
def execLd_E_atHL (s : State) : Result :=
  loadFrom .e (s.pair .hl) 1 s

/-- LD E,A (0x5F): rule R200. -/
def execLd_E_A (s : State) : Result :=
  loadReg .e .a s

/-- LD H,B (0x60): rule R200. -/
def execLd_H_B (s : State) : Result :=
  loadReg .h .b s

/-- LD H,C (0x61): rule R200. -/
def execLd_H_C (s : State) : Result :=
  loadReg .h .c s

/-- LD H,D (0x62): rule R200. -/
def execLd_H_D (s : State) : Result :=
  loadReg .h .d s

/-- LD H,E (0x63): rule R200. -/
def execLd_H_E (s : State) : Result :=
  loadReg .h .e s

/-- LD H,H (0x64): rule R200. -/
def execLd_H_H (s : State) : Result :=
  loadReg .h .h s

/-- LD H,L (0x65): rule R200. -/
def execLd_H_L (s : State) : Result :=
  loadReg .h .l s

/-- LD H,(HL) (0x66): rule R201. -/
def execLd_H_atHL (s : State) : Result :=
  loadFrom .h (s.pair .hl) 1 s

/-- LD H,A (0x67): rule R200. -/
def execLd_H_A (s : State) : Result :=
  loadReg .h .a s

/-- LD L,B (0x68): rule R200. -/
def execLd_L_B (s : State) : Result :=
  loadReg .l .b s

/-- LD L,C (0x69): rule R200. -/
def execLd_L_C (s : State) : Result :=
  loadReg .l .c s

/-- LD L,D (0x6A): rule R200. -/
def execLd_L_D (s : State) : Result :=
  loadReg .l .d s

/-- LD L,E (0x6B): rule R200. -/
def execLd_L_E (s : State) : Result :=
  loadReg .l .e s

/-- LD L,H (0x6C): rule R200. -/
def execLd_L_H (s : State) : Result :=
  loadReg .l .h s

/-- LD L,L (0x6D): rule R200. -/
def execLd_L_L (s : State) : Result :=
  loadReg .l .l s

/-- LD L,(HL) (0x6E): rule R201. -/
def execLd_L_atHL (s : State) : Result :=
  loadFrom .l (s.pair .hl) 1 s

/-- LD L,A (0x6F): rule R200. -/
def execLd_L_A (s : State) : Result :=
  loadReg .l .a s

/-- LD (HL),B (0x70): rule R202. -/
def execLd_atHL_B (s : State) : Result :=
  storeTo (s.pair .hl) (s.reg .b) 1 s

/-- LD (HL),C (0x71): rule R202. -/
def execLd_atHL_C (s : State) : Result :=
  storeTo (s.pair .hl) (s.reg .c) 1 s

/-- LD (HL),D (0x72): rule R202. -/
def execLd_atHL_D (s : State) : Result :=
  storeTo (s.pair .hl) (s.reg .d) 1 s

/-- LD (HL),E (0x73): rule R202. -/
def execLd_atHL_E (s : State) : Result :=
  storeTo (s.pair .hl) (s.reg .e) 1 s

/-- LD (HL),H (0x74): rule R202. -/
def execLd_atHL_H (s : State) : Result :=
  storeTo (s.pair .hl) (s.reg .h) 1 s

/-- LD (HL),L (0x75): rule R202. -/
def execLd_atHL_L (s : State) : Result :=
  storeTo (s.pair .hl) (s.reg .l) 1 s

/-- LD (HL),A (0x77): rule R202. -/
def execLd_atHL_A (s : State) : Result :=
  storeTo (s.pair .hl) (s.reg .a) 1 s

/-- LD A,B (0x78): rule R200. -/
def execLd_A_B (s : State) : Result :=
  loadReg .a .b s

/-- LD A,C (0x79): rule R200. -/
def execLd_A_C (s : State) : Result :=
  loadReg .a .c s

/-- LD A,D (0x7A): rule R200. -/
def execLd_A_D (s : State) : Result :=
  loadReg .a .d s

/-- LD A,E (0x7B): rule R200. -/
def execLd_A_E (s : State) : Result :=
  loadReg .a .e s

/-- LD A,H (0x7C): rule R200. -/
def execLd_A_H (s : State) : Result :=
  loadReg .a .h s

/-- LD A,L (0x7D): rule R200. -/
def execLd_A_L (s : State) : Result :=
  loadReg .a .l s

/-- LD A,(HL) (0x7E): rule R201. -/
def execLd_A_atHL (s : State) : Result :=
  loadFrom .a (s.pair .hl) 1 s

/-- LD A,A (0x7F): rule R200. -/
def execLd_A_A (s : State) : Result :=
  loadReg .a .a s

/-- LD (C),A (0xE2): rule R217. -/
def execLd_atC_A (s : State) : Result :=
  storeTo (highPage (s.reg .c)) (s.reg .a) 1 s

/-- LD A,(C) (0xF2): rule R216. -/
def execLd_A_atC (s : State) : Result :=
  loadFrom .a (highPage (s.reg .c)) 1 s

end Sys2Proof.Machine
end

