-- ==== Sys2Proof/Machine/Misc.lean ====
section
/-! DEFINITION. Machine/Misc.lean: NOP, DI, DAA (spec/48_gk_ops.md), the four instructions that are always refused
(rule R241) and the undefined bytes (spec/30_encoding.md rule R79). -/

namespace Sys2Proof.Machine

/-- `DAA` (rule R255). -/
def decimalAdjust (s : State) : Result :=
  let out := daaOut (s.reg .a) s.flags
  advance 1 ((s.setReg .a out.acc).setFlags out.flags)

/-- The tier-X refusal, under every value of `GK_OPS` (rule R241). -/
def alwaysRefused (b0 : Byte) (mnemonic : String) (s : State) : Result :=
  .refused (.tierX s.pc [b0] mnemonic s.bus)

/-- The decode failure of an undefined byte (rule R79). -/
def decodeFailure (b : Byte) (s : State) : Result := .fault (.decodeFailure s.pc b s.bus)

/-- (undefined) (the eleven bytes of rule R79): rule R79. -/
def execUndefined (b : Byte) (s : State) : Result :=
  decodeFailure b s

/-- NOP (0x00): rule R242. -/
def execNop (s : State) : Result :=
  gated 0x00 "NOP" s (advance 1 s)

/-- STOP (0x10): rule R266. -/
def execStop (s : State) : Result :=
  alwaysRefused 0x10 "STOP" s

/-- DAA (0x27): rule R255. -/
def execDaa (s : State) : Result :=
  gated 0x27 "DAA" s (decimalAdjust s)

/-- HALT (0x76): rule R265. -/
def execHalt (s : State) : Result :=
  alwaysRefused 0x76 "HALT" s

/-- RETI (0xD9): rule R268. -/
def execReti (s : State) : Result :=
  alwaysRefused 0xD9 "RETI" s

/-- DI (0xF3): rule R264. -/
def execDi (s : State) : Result :=
  gated 0xF3 "DI" s (advance 1 s)

/-- EI (0xFB): rule R267. -/
def execEi (s : State) : Result :=
  alwaysRefused 0xFB "EI" s

end Sys2Proof.Machine
end

