-- ==== Sys2Proof/Machine/Stack.lean ====
section
/-! DEFINITION. Machine/Stack.lean: the tier-G instructions with the stack or SP (spec/48_gk_ops.md). -/

namespace Sys2Proof.Machine

/-- `LD (a16),SP`: the low byte first, the high byte at the next address (rule R243). -/
def storeSp (addr : Word) (s : State) : Result :=
  memWrite s addr (lo8 s.sp) fun s => memWrite s (addr + 1) (hi8 s.sp) fun s => advance 3 s

/-- `PUSH rr2` (rule R252). -/
def pushPair (p : Pair) (s : State) : Result := push16 s (s.pair p) fun s => advance 1 s

/-- `POP rr2` (rule R253). -/
def popPair (p : Pair) (s : State) : Result := pop16 s fun w s => advance 1 (s.setPair p w)

/-- `LD SP,d16` and `LD SP,HL` (rules R254, R263). -/
def loadSp (w len : Word) (s : State) : Result := advance len (s.setSp w)

/-- A call: the return address pushed, then the jump (rules R256, R258). -/
def callTo (target ret : Word) (s : State) : Result := push16 s ret fun s => .next (s.setPc target)

/-- `CALL cc,a16` (rule R257). -/
def callIf (cc : Cond) (target : Word) (s : State) : Result :=
  if condHolds s.flags cc then callTo target (s.pc + 3) s else advance 3 s

/-- `RET` (rule R259). -/
def returnFrom (s : State) : Result := pop16 s fun w s => .next (s.setPc w)

/-- `RET cc` (rule R260). -/
def returnIf (cc : Cond) (s : State) : Result :=
  if condHolds s.flags cc then returnFrom s else advance 1 s

/-- `ADD SP,e8` (rule R261). -/
def addToSp (e : Byte) (s : State) : Result :=
  advance 2 ((s.setSp (s.sp + sext16 e)).setFlags (spOffsetFlags s.sp e))

/-- `LD HL,SP+e8` (rule R262). -/
def loadHlSpPlus (e : Byte) (s : State) : Result :=
  advance 2 ((s.setPair .hl (s.sp + sext16 e)).setFlags (spOffsetFlags s.sp e))

/-- LD (a16),SP (0x08): rule R243. -/
def execLd_at_a16_SP (w : Word) (s : State) : Result :=
  gated 0x08 "LD (a16),SP" s (storeSp w s)

/-- LD SP,d16 (0x31): rule R254. -/
def execLd_SP_d16 (w : Word) (s : State) : Result :=
  gated 0x31 "LD SP,d16" s (loadSp w 3 s)

/-- CALL NZ,a16 (0xC4): rule R257. -/
def execCall_NZ_a16 (w : Word) (s : State) : Result :=
  gated 0xC4 "CALL NZ,a16" s (callIf .nz w s)

/-- CALL Z,a16 (0xCC): rule R257. -/
def execCall_Z_a16 (w : Word) (s : State) : Result :=
  gated 0xCC "CALL Z,a16" s (callIf .z w s)

/-- CALL a16 (0xCD): rule R256. -/
def execCall_a16 (w : Word) (s : State) : Result :=
  gated 0xCD "CALL a16" s (callTo w (s.pc + 3) s)

/-- CALL NC,a16 (0xD4): rule R257. -/
def execCall_NC_a16 (w : Word) (s : State) : Result :=
  gated 0xD4 "CALL NC,a16" s (callIf .nc w s)

/-- CALL C,a16 (0xDC): rule R257. -/
def execCall_C_a16 (w : Word) (s : State) : Result :=
  gated 0xDC "CALL C,a16" s (callIf .c w s)

/-- ADD SP,e8 (0xE8): rule R261. -/
def execAdd_SP_e8 (e : Byte) (s : State) : Result :=
  gated 0xE8 "ADD SP,e8" s (addToSp e s)

/-- LD HL,SP+e8 (0xF8): rule R262. -/
def execLd_HL_SPplus_e8 (e : Byte) (s : State) : Result :=
  gated 0xF8 "LD HL,SP+e8" s (loadHlSpPlus e s)

/-- RET NZ (0xC0): rule R260. -/
def execRet_NZ (s : State) : Result :=
  gated 0xC0 "RET NZ" s (returnIf .nz s)

/-- POP BC (0xC1): rule R253. -/
def execPop_BC (s : State) : Result :=
  gated 0xC1 "POP BC" s (popPair .bc s)

/-- PUSH BC (0xC5): rule R252. -/
def execPush_BC (s : State) : Result :=
  gated 0xC5 "PUSH BC" s (pushPair .bc s)

/-- RST 00H (0xC7): rule R258. -/
def execRst_00 (s : State) : Result :=
  gated 0xC7 "RST 00H" s (callTo 0x0000 (s.pc + 1) s)

/-- RET Z (0xC8): rule R260. -/
def execRet_Z (s : State) : Result :=
  gated 0xC8 "RET Z" s (returnIf .z s)

/-- RET (0xC9): rule R259. -/
def execRet (s : State) : Result :=
  gated 0xC9 "RET" s (returnFrom s)

/-- RST 08H (0xCF): rule R258. -/
def execRst_08 (s : State) : Result :=
  gated 0xCF "RST 08H" s (callTo 0x0008 (s.pc + 1) s)

/-- RET NC (0xD0): rule R260. -/
def execRet_NC (s : State) : Result :=
  gated 0xD0 "RET NC" s (returnIf .nc s)

/-- POP DE (0xD1): rule R253. -/
def execPop_DE (s : State) : Result :=
  gated 0xD1 "POP DE" s (popPair .de s)

/-- PUSH DE (0xD5): rule R252. -/
def execPush_DE (s : State) : Result :=
  gated 0xD5 "PUSH DE" s (pushPair .de s)

/-- RST 10H (0xD7): rule R258. -/
def execRst_10 (s : State) : Result :=
  gated 0xD7 "RST 10H" s (callTo 0x0010 (s.pc + 1) s)

/-- RET C (0xD8): rule R260. -/
def execRet_C (s : State) : Result :=
  gated 0xD8 "RET C" s (returnIf .c s)

/-- RST 18H (0xDF): rule R258. -/
def execRst_18 (s : State) : Result :=
  gated 0xDF "RST 18H" s (callTo 0x0018 (s.pc + 1) s)

/-- POP HL (0xE1): rule R253. -/
def execPop_HL (s : State) : Result :=
  gated 0xE1 "POP HL" s (popPair .hl s)

/-- PUSH HL (0xE5): rule R252. -/
def execPush_HL (s : State) : Result :=
  gated 0xE5 "PUSH HL" s (pushPair .hl s)

/-- RST 20H (0xE7): rule R258. -/
def execRst_20 (s : State) : Result :=
  gated 0xE7 "RST 20H" s (callTo 0x0020 (s.pc + 1) s)

/-- RST 28H (0xEF): rule R258. -/
def execRst_28 (s : State) : Result :=
  gated 0xEF "RST 28H" s (callTo 0x0028 (s.pc + 1) s)

/-- POP AF (0xF1): rule R253. -/
def execPop_AF (s : State) : Result :=
  gated 0xF1 "POP AF" s (popPair .af s)

/-- PUSH AF (0xF5): rule R252. -/
def execPush_AF (s : State) : Result :=
  gated 0xF5 "PUSH AF" s (pushPair .af s)

/-- RST 30H (0xF7): rule R258. -/
def execRst_30 (s : State) : Result :=
  gated 0xF7 "RST 30H" s (callTo 0x0030 (s.pc + 1) s)

/-- LD SP,HL (0xF9): rule R263. -/
def execLd_SP_HL (s : State) : Result :=
  gated 0xF9 "LD SP,HL" s (loadSp (s.pair .hl) 1 s)

/-- RST 38H (0xFF): rule R258. -/
def execRst_38 (s : State) : Result :=
  gated 0xFF "RST 38H" s (callTo 0x0038 (s.pc + 1) s)

end Sys2Proof.Machine
end

