-- ==== Sys2Proof/Machine/Fetch.lean ====
section
/-! DEFINITION. Machine/Fetch.lean: the fetch and decode part of a step (spec/40_sequencer.md rule R100), with the bus
accesses in the order of spec/20_memory.md rule R57, and the placing of an instruction where it will be fetched. -/

namespace Sys2Proof.Machine

/-- How many operand bytes the step reads after the opcode byte `b0`: those of the instruction (rule R73), but none
where it is refused, which comes before any access of its own (rules R240, R241, R304). -/
def operandsFetched (gk : GkOps) (b0 : Byte) : Nat :=
  match gk, byteTier b0 with
  | .refuse, .g => 0
  | _, _ => operandCount b0

/-- The fetch: the opcode at PC, the second byte at PC + 1 after a prefix, else the operand bytes at PC + 1 and PC + 2
(rules R55, R57, R100); then `k` with the decoded instruction.  PC itself does not move (rule R27). -/
def fetch (s : State) (k : Instr → State → Result) : Result :=
  memRead s s.pc fun b0 s =>
    if b0 = prefixByte then
      memRead s (s.pc + 1) fun b1 s => k (decodeExtended b1) s
    else
      match operandsFetched s.params.gkOps b0 with
      | 0 => k (decodeBase b0 0 0) s
      | 1 => memRead s (s.pc + 1) fun lo s => k (decodeBase b0 lo 0) s
      | _ => memRead s (s.pc + 1) fun lo s => memRead s (s.pc + 2) fun hi s => k (decodeBase b0 lo hi) s

/-- Bytes stored in RAM at consecutive addresses from `a` (modulo 65536). -/
def Bus.pokeList (bus : Bus) (a : Word) : List Byte → Bus
  | [] => bus
  | v :: rest => Bus.pokeList (bus.poke a v) (a + 1) rest

end Sys2Proof.Machine
end

