-- ==== Sys2Proof/Machine/Step.lean ====
section
/-! DEFINITION. Machine/Step.lean: one step (spec/40_sequencer.md rule R100) and the placing of an instruction for it. -/

namespace Sys2Proof.Machine

/-- One step request: the fetch, then the decoded instruction.  In status Stopped "a step request changes nothing"
(rule R104). -/
def step (s : State) : Host.Outcome State Fault Refusal :=
  match s.status with
  | .stopped _ => .next s
  | .running => fetch s exec

/-- `s` with the instruction of an opcode-table word stored at PC, where the next step fetches it: the bus is the flat
RAM from here on (another bus would answer the fetch itself), and the run status is Running (rules R51, R104). -/
def State.withFetchWord (s : State) (nbits w : Nat) : State :=
  let bus : Bus := { s.bus with script := [], backing := .ram }
  { s with bus := bus.pokeList s.pc (tableBytes nbits (w % 2 ^ nbits)), status := .running }

end Sys2Proof.Machine
end

