-- ==== Sys2Proof/Machine/Forms.lean ====
section
/-! DEFINITION. Machine/Forms.lean: the instructions by their shape: `Instr.form` names the rule's family and its
operands, so that a statement about every instruction splits into some sixty cases and not into the table's five
hundred. -/

namespace Sys2Proof

/-- The shapes of instructions, one for each rule or group of rules with one pseudocode (files 41 to 48 of the spec). -/
inductive Form where
  | alu (op : AluOp) (r : Opd8)
  | aluImm (op : AluOp) (v : Byte)
  | inc (r : Opd8)
  | dec (r : Opd8)
  | incWide (rr : Reg16)
  | decWide (rr : Reg16)
  | addHl (rr : Reg16)
  | ccf
  | scf
  | cpl
  | rotateA (op : RotOp)
  | rotate (op : RotOp) (r : Opd8)
  | bit (b : Fin 8) (r : Opd8)
  | res (b : Fin 8) (r : Opd8)
  | set (b : Fin 8) (r : Opd8)
  | jump (w : Word)
  | jumpIf (cc : Cond) (w : Word)
  | jumpRel (e : Byte)
  | jumpRelIf (cc : Cond) (e : Byte)
  | jumpHl
  | load (r r' : Reg8)
  | loadFromHl (r : Reg8)
  | storeToHl (r : Reg8)
  | loadImm (r : Reg8) (v : Byte)
  | storeImm (v : Byte)
  | loadWord (p : WordPair) (w : Word)
  | loadA (m : MemOpd)
  | storeA (m : MemOpd)
  | loadAStep (d : HlStep)
  | storeAStep (d : HlStep)
  | nop
  | di
  | daa
  | storeSp (w : Word)
  | loadSp (w : Word)
  | loadSpHl
  | addSp (e : Byte)
  | loadHlSp (e : Byte)
  | push (p : Pair)
  | pop (p : Pair)
  | call (w : Word)
  | callIf (cc : Cond) (w : Word)
  | restart (y : Fin 8)
  | ret
  | retIf (cc : Cond)
  | halt
  | stop
  | ei
  | reti
  | undefined (b : Byte)
  | extended (second : Byte)
  deriving DecidableEq, Repr

/-- The shape of an instruction. -/
def Instr.form : Instr → Form
  | .ld_BC_d16 w => .loadWord .bc w
  | .ld_B_d8 v => .loadImm .b v
  | .ld_at_a16_SP w => .storeSp w
  | .ld_C_d8 v => .loadImm .c v
  | .ld_DE_d16 w => .loadWord .de w
  | .ld_D_d8 v => .loadImm .d v
  | .jr_e8 e => .jumpRel e
  | .ld_E_d8 v => .loadImm .e v
  | .jr_NZ_e8 e => .jumpRelIf .nz e
  | .ld_HL_d16 w => .loadWord .hl w
  | .ld_H_d8 v => .loadImm .h v
  | .jr_Z_e8 e => .jumpRelIf .z e
  | .ld_L_d8 v => .loadImm .l v
  | .jr_NC_e8 e => .jumpRelIf .nc e
  | .ld_SP_d16 w => .loadSp w
  | .ld_atHL_d8 v => .storeImm v
  | .jr_C_e8 e => .jumpRelIf .c e
  | .ld_A_d8 v => .loadImm .a v
  | .jp_NZ_a16 w => .jumpIf .nz w
  | .jp_a16 w => .jump w
  | .call_NZ_a16 w => .callIf .nz w
  | .add_A_d8 v => .aluImm .add v
  | .jp_Z_a16 w => .jumpIf .z w
  | .prefixCB second => .extended second
  | .call_Z_a16 w => .callIf .z w
  | .call_a16 w => .call w
  | .adc_A_d8 v => .aluImm .adc v
  | .jp_NC_a16 w => .jumpIf .nc w
  | .undefined b => .undefined b
  | .call_NC_a16 w => .callIf .nc w
  | .sub_d8 v => .aluImm .sub v
  | .jp_C_a16 w => .jumpIf .c w
  | .call_C_a16 w => .callIf .c w
  | .sbc_A_d8 v => .aluImm .sbc v
  | .ldh_at_a8_A n => .storeA (.high n)
  | .and_d8 v => .aluImm .and v
  | .add_SP_e8 e => .addSp e
  | .ld_at_a16_A w => .storeA (.abs w)
  | .xor_d8 v => .aluImm .xor v
  | .ldh_A_at_a8 n => .loadA (.high n)
  | .or_d8 v => .aluImm .or v
  | .ld_HL_SPplus_e8 e => .loadHlSp e
  | .ld_A_at_a16 w => .loadA (.abs w)
  | .cp_d8 v => .aluImm .cp v
  | .nop => .nop
  | .ld_atBC_A => .storeA .bc
  | .inc_BC => .incWide .bc
  | .inc_B => .inc (.reg .b)
  | .dec_B => .dec (.reg .b)
  | .rlca => .rotateA .rlc
  | .add_HL_BC => .addHl .bc
  | .ld_A_atBC => .loadA .bc
  | .dec_BC => .decWide .bc
  | .inc_C => .inc (.reg .c)
  | .dec_C => .dec (.reg .c)
  | .rrca => .rotateA .rrc
  | .stop => .stop
  | .ld_atDE_A => .storeA .de
  | .inc_DE => .incWide .de
  | .inc_D => .inc (.reg .d)
  | .dec_D => .dec (.reg .d)
  | .rla => .rotateA .rl
  | .add_HL_DE => .addHl .de
  | .ld_A_atDE => .loadA .de
  | .dec_DE => .decWide .de
  | .inc_E => .inc (.reg .e)
  | .dec_E => .dec (.reg .e)
  | .rra => .rotateA .rr
  | .ld_atHLinc_A => .storeAStep .inc
  | .inc_HL => .incWide .hl
  | .inc_H => .inc (.reg .h)
  | .dec_H => .dec (.reg .h)
  | .daa => .daa
  | .add_HL_HL => .addHl .hl
  | .ld_A_atHLinc => .loadAStep .inc
  | .dec_HL => .decWide .hl
  | .inc_L => .inc (.reg .l)
  | .dec_L => .dec (.reg .l)
  | .cpl => .cpl
  | .ld_atHLdec_A => .storeAStep .dec
  | .inc_SP => .incWide .sp
  | .inc_atHL => .inc .atHL
  | .dec_atHL => .dec .atHL
  | .scf => .scf
  | .add_HL_SP => .addHl .sp
  | .ld_A_atHLdec => .loadAStep .dec
  | .dec_SP => .decWide .sp
  | .inc_A => .inc (.reg .a)
  | .dec_A => .dec (.reg .a)
  | .ccf => .ccf
  | .ld_B_B => .load .b .b
  | .ld_B_C => .load .b .c
  | .ld_B_D => .load .b .d
  | .ld_B_E => .load .b .e
  | .ld_B_H => .load .b .h
  | .ld_B_L => .load .b .l
  | .ld_B_atHL => .loadFromHl .b
  | .ld_B_A => .load .b .a
  | .ld_C_B => .load .c .b
  | .ld_C_C => .load .c .c
  | .ld_C_D => .load .c .d
  | .ld_C_E => .load .c .e
  | .ld_C_H => .load .c .h
  | .ld_C_L => .load .c .l
  | .ld_C_atHL => .loadFromHl .c
  | .ld_C_A => .load .c .a
  | .ld_D_B => .load .d .b
  | .ld_D_C => .load .d .c
  | .ld_D_D => .load .d .d
  | .ld_D_E => .load .d .e
  | .ld_D_H => .load .d .h
  | .ld_D_L => .load .d .l
  | .ld_D_atHL => .loadFromHl .d
  | .ld_D_A => .load .d .a
  | .ld_E_B => .load .e .b
  | .ld_E_C => .load .e .c
  | .ld_E_D => .load .e .d
  | .ld_E_E => .load .e .e
  | .ld_E_H => .load .e .h
  | .ld_E_L => .load .e .l
  | .ld_E_atHL => .loadFromHl .e
  | .ld_E_A => .load .e .a
  | .ld_H_B => .load .h .b
  | .ld_H_C => .load .h .c
  | .ld_H_D => .load .h .d
  | .ld_H_E => .load .h .e
  | .ld_H_H => .load .h .h
  | .ld_H_L => .load .h .l
  | .ld_H_atHL => .loadFromHl .h
  | .ld_H_A => .load .h .a
  | .ld_L_B => .load .l .b
  | .ld_L_C => .load .l .c
  | .ld_L_D => .load .l .d
  | .ld_L_E => .load .l .e
  | .ld_L_H => .load .l .h
  | .ld_L_L => .load .l .l
  | .ld_L_atHL => .loadFromHl .l
  | .ld_L_A => .load .l .a
  | .ld_atHL_B => .storeToHl .b
  | .ld_atHL_C => .storeToHl .c
  | .ld_atHL_D => .storeToHl .d
  | .ld_atHL_E => .storeToHl .e
  | .ld_atHL_H => .storeToHl .h
  | .ld_atHL_L => .storeToHl .l
  | .halt => .halt
  | .ld_atHL_A => .storeToHl .a
  | .ld_A_B => .load .a .b
  | .ld_A_C => .load .a .c
  | .ld_A_D => .load .a .d
  | .ld_A_E => .load .a .e
  | .ld_A_H => .load .a .h
  | .ld_A_L => .load .a .l
  | .ld_A_atHL => .loadFromHl .a
  | .ld_A_A => .load .a .a
  | .add_A_B => .alu .add (.reg .b)
  | .add_A_C => .alu .add (.reg .c)
  | .add_A_D => .alu .add (.reg .d)
  | .add_A_E => .alu .add (.reg .e)
  | .add_A_H => .alu .add (.reg .h)
  | .add_A_L => .alu .add (.reg .l)
  | .add_A_atHL => .alu .add .atHL
  | .add_A_A => .alu .add (.reg .a)
  | .adc_A_B => .alu .adc (.reg .b)
  | .adc_A_C => .alu .adc (.reg .c)
  | .adc_A_D => .alu .adc (.reg .d)
  | .adc_A_E => .alu .adc (.reg .e)
  | .adc_A_H => .alu .adc (.reg .h)
  | .adc_A_L => .alu .adc (.reg .l)
  | .adc_A_atHL => .alu .adc .atHL
  | .adc_A_A => .alu .adc (.reg .a)
  | .sub_B => .alu .sub (.reg .b)
  | .sub_C => .alu .sub (.reg .c)
  | .sub_D => .alu .sub (.reg .d)
  | .sub_E => .alu .sub (.reg .e)
  | .sub_H => .alu .sub (.reg .h)
  | .sub_L => .alu .sub (.reg .l)
  | .sub_atHL => .alu .sub .atHL
  | .sub_A => .alu .sub (.reg .a)
  | .sbc_A_B => .alu .sbc (.reg .b)
  | .sbc_A_C => .alu .sbc (.reg .c)
  | .sbc_A_D => .alu .sbc (.reg .d)
  | .sbc_A_E => .alu .sbc (.reg .e)
  | .sbc_A_H => .alu .sbc (.reg .h)
  | .sbc_A_L => .alu .sbc (.reg .l)
  | .sbc_A_atHL => .alu .sbc .atHL
  | .sbc_A_A => .alu .sbc (.reg .a)
  | .and_B => .alu .and (.reg .b)
  | .and_C => .alu .and (.reg .c)
  | .and_D => .alu .and (.reg .d)
  | .and_E => .alu .and (.reg .e)
  | .and_H => .alu .and (.reg .h)
  | .and_L => .alu .and (.reg .l)
  | .and_atHL => .alu .and .atHL
  | .and_A => .alu .and (.reg .a)
  | .xor_B => .alu .xor (.reg .b)
  | .xor_C => .alu .xor (.reg .c)
  | .xor_D => .alu .xor (.reg .d)
  | .xor_E => .alu .xor (.reg .e)
  | .xor_H => .alu .xor (.reg .h)
  | .xor_L => .alu .xor (.reg .l)
  | .xor_atHL => .alu .xor .atHL
  | .xor_A => .alu .xor (.reg .a)
  | .or_B => .alu .or (.reg .b)
  | .or_C => .alu .or (.reg .c)
  | .or_D => .alu .or (.reg .d)
  | .or_E => .alu .or (.reg .e)
  | .or_H => .alu .or (.reg .h)
  | .or_L => .alu .or (.reg .l)
  | .or_atHL => .alu .or .atHL
  | .or_A => .alu .or (.reg .a)
  | .cp_B => .alu .cp (.reg .b)
  | .cp_C => .alu .cp (.reg .c)
  | .cp_D => .alu .cp (.reg .d)
  | .cp_E => .alu .cp (.reg .e)
  | .cp_H => .alu .cp (.reg .h)
  | .cp_L => .alu .cp (.reg .l)
  | .cp_atHL => .alu .cp .atHL
  | .cp_A => .alu .cp (.reg .a)
  | .ret_NZ => .retIf .nz
  | .pop_BC => .pop .bc
  | .push_BC => .push .bc
  | .rst_00 => .restart 0
  | .ret_Z => .retIf .z
  | .ret => .ret
  | .rst_08 => .restart 1
  | .ret_NC => .retIf .nc
  | .pop_DE => .pop .de
  | .push_DE => .push .de
  | .rst_10 => .restart 2
  | .ret_C => .retIf .c
  | .reti => .reti
  | .rst_18 => .restart 3
  | .pop_HL => .pop .hl
  | .ld_atC_A => .storeA .c
  | .push_HL => .push .hl
  | .rst_20 => .restart 4
  | .jp_HL => .jumpHl
  | .rst_28 => .restart 5
  | .pop_AF => .pop .af
  | .ld_A_atC => .loadA .c
  | .di => .di
  | .push_AF => .push .af
  | .rst_30 => .restart 6
  | .ld_SP_HL => .loadSpHl
  | .ei => .ei
  | .rst_38 => .restart 7
  | .rlc_B => .rotate .rlc (.reg .b)
  | .rlc_C => .rotate .rlc (.reg .c)
  | .rlc_D => .rotate .rlc (.reg .d)
  | .rlc_E => .rotate .rlc (.reg .e)
  | .rlc_H => .rotate .rlc (.reg .h)
  | .rlc_L => .rotate .rlc (.reg .l)
  | .rlc_atHL => .rotate .rlc .atHL
  | .rlc_A => .rotate .rlc (.reg .a)
  | .rrc_B => .rotate .rrc (.reg .b)
  | .rrc_C => .rotate .rrc (.reg .c)
  | .rrc_D => .rotate .rrc (.reg .d)
  | .rrc_E => .rotate .rrc (.reg .e)
  | .rrc_H => .rotate .rrc (.reg .h)
  | .rrc_L => .rotate .rrc (.reg .l)
  | .rrc_atHL => .rotate .rrc .atHL
  | .rrc_A => .rotate .rrc (.reg .a)
  | .rl_B => .rotate .rl (.reg .b)
  | .rl_C => .rotate .rl (.reg .c)
  | .rl_D => .rotate .rl (.reg .d)
  | .rl_E => .rotate .rl (.reg .e)
  | .rl_H => .rotate .rl (.reg .h)
  | .rl_L => .rotate .rl (.reg .l)
  | .rl_atHL => .rotate .rl .atHL
  | .rl_A => .rotate .rl (.reg .a)
  | .rr_B => .rotate .rr (.reg .b)
  | .rr_C => .rotate .rr (.reg .c)
  | .rr_D => .rotate .rr (.reg .d)
  | .rr_E => .rotate .rr (.reg .e)
  | .rr_H => .rotate .rr (.reg .h)
  | .rr_L => .rotate .rr (.reg .l)
  | .rr_atHL => .rotate .rr .atHL
  | .rr_A => .rotate .rr (.reg .a)
  | .sla_B => .rotate .sla (.reg .b)
  | .sla_C => .rotate .sla (.reg .c)
  | .sla_D => .rotate .sla (.reg .d)
  | .sla_E => .rotate .sla (.reg .e)
  | .sla_H => .rotate .sla (.reg .h)
  | .sla_L => .rotate .sla (.reg .l)
  | .sla_atHL => .rotate .sla .atHL
  | .sla_A => .rotate .sla (.reg .a)
  | .sra_B => .rotate .sra (.reg .b)
  | .sra_C => .rotate .sra (.reg .c)
  | .sra_D => .rotate .sra (.reg .d)
  | .sra_E => .rotate .sra (.reg .e)
  | .sra_H => .rotate .sra (.reg .h)
  | .sra_L => .rotate .sra (.reg .l)
  | .sra_atHL => .rotate .sra .atHL
  | .sra_A => .rotate .sra (.reg .a)
  | .swap_B => .rotate .swap (.reg .b)
  | .swap_C => .rotate .swap (.reg .c)
  | .swap_D => .rotate .swap (.reg .d)
  | .swap_E => .rotate .swap (.reg .e)
  | .swap_H => .rotate .swap (.reg .h)
  | .swap_L => .rotate .swap (.reg .l)
  | .swap_atHL => .rotate .swap .atHL
  | .swap_A => .rotate .swap (.reg .a)
  | .srl_B => .rotate .srl (.reg .b)
  | .srl_C => .rotate .srl (.reg .c)
  | .srl_D => .rotate .srl (.reg .d)
  | .srl_E => .rotate .srl (.reg .e)
  | .srl_H => .rotate .srl (.reg .h)
  | .srl_L => .rotate .srl (.reg .l)
  | .srl_atHL => .rotate .srl .atHL
  | .srl_A => .rotate .srl (.reg .a)
  | .bit_0_B => .bit 0 (.reg .b)
  | .bit_0_C => .bit 0 (.reg .c)
  | .bit_0_D => .bit 0 (.reg .d)
  | .bit_0_E => .bit 0 (.reg .e)
  | .bit_0_H => .bit 0 (.reg .h)
  | .bit_0_L => .bit 0 (.reg .l)
  | .bit_0_atHL => .bit 0 .atHL
  | .bit_0_A => .bit 0 (.reg .a)
  | .bit_1_B => .bit 1 (.reg .b)
  | .bit_1_C => .bit 1 (.reg .c)
  | .bit_1_D => .bit 1 (.reg .d)
  | .bit_1_E => .bit 1 (.reg .e)
  | .bit_1_H => .bit 1 (.reg .h)
  | .bit_1_L => .bit 1 (.reg .l)
  | .bit_1_atHL => .bit 1 .atHL
  | .bit_1_A => .bit 1 (.reg .a)
  | .bit_2_B => .bit 2 (.reg .b)
  | .bit_2_C => .bit 2 (.reg .c)
  | .bit_2_D => .bit 2 (.reg .d)
  | .bit_2_E => .bit 2 (.reg .e)
  | .bit_2_H => .bit 2 (.reg .h)
  | .bit_2_L => .bit 2 (.reg .l)
  | .bit_2_atHL => .bit 2 .atHL
  | .bit_2_A => .bit 2 (.reg .a)
  | .bit_3_B => .bit 3 (.reg .b)
  | .bit_3_C => .bit 3 (.reg .c)
  | .bit_3_D => .bit 3 (.reg .d)
  | .bit_3_E => .bit 3 (.reg .e)
  | .bit_3_H => .bit 3 (.reg .h)
  | .bit_3_L => .bit 3 (.reg .l)
  | .bit_3_atHL => .bit 3 .atHL
  | .bit_3_A => .bit 3 (.reg .a)
  | .bit_4_B => .bit 4 (.reg .b)
  | .bit_4_C => .bit 4 (.reg .c)
  | .bit_4_D => .bit 4 (.reg .d)
  | .bit_4_E => .bit 4 (.reg .e)
  | .bit_4_H => .bit 4 (.reg .h)
  | .bit_4_L => .bit 4 (.reg .l)
  | .bit_4_atHL => .bit 4 .atHL
  | .bit_4_A => .bit 4 (.reg .a)
  | .bit_5_B => .bit 5 (.reg .b)
  | .bit_5_C => .bit 5 (.reg .c)
  | .bit_5_D => .bit 5 (.reg .d)
  | .bit_5_E => .bit 5 (.reg .e)
  | .bit_5_H => .bit 5 (.reg .h)
  | .bit_5_L => .bit 5 (.reg .l)
  | .bit_5_atHL => .bit 5 .atHL
  | .bit_5_A => .bit 5 (.reg .a)
  | .bit_6_B => .bit 6 (.reg .b)
  | .bit_6_C => .bit 6 (.reg .c)
  | .bit_6_D => .bit 6 (.reg .d)
  | .bit_6_E => .bit 6 (.reg .e)
  | .bit_6_H => .bit 6 (.reg .h)
  | .bit_6_L => .bit 6 (.reg .l)
  | .bit_6_atHL => .bit 6 .atHL
  | .bit_6_A => .bit 6 (.reg .a)
  | .bit_7_B => .bit 7 (.reg .b)
  | .bit_7_C => .bit 7 (.reg .c)
  | .bit_7_D => .bit 7 (.reg .d)
  | .bit_7_E => .bit 7 (.reg .e)
  | .bit_7_H => .bit 7 (.reg .h)
  | .bit_7_L => .bit 7 (.reg .l)
  | .bit_7_atHL => .bit 7 .atHL
  | .bit_7_A => .bit 7 (.reg .a)
  | .res_0_B => .res 0 (.reg .b)
  | .res_0_C => .res 0 (.reg .c)
  | .res_0_D => .res 0 (.reg .d)
  | .res_0_E => .res 0 (.reg .e)
  | .res_0_H => .res 0 (.reg .h)
  | .res_0_L => .res 0 (.reg .l)
  | .res_0_atHL => .res 0 .atHL
  | .res_0_A => .res 0 (.reg .a)
  | .res_1_B => .res 1 (.reg .b)
  | .res_1_C => .res 1 (.reg .c)
  | .res_1_D => .res 1 (.reg .d)
  | .res_1_E => .res 1 (.reg .e)
  | .res_1_H => .res 1 (.reg .h)
  | .res_1_L => .res 1 (.reg .l)
  | .res_1_atHL => .res 1 .atHL
  | .res_1_A => .res 1 (.reg .a)
  | .res_2_B => .res 2 (.reg .b)
  | .res_2_C => .res 2 (.reg .c)
  | .res_2_D => .res 2 (.reg .d)
  | .res_2_E => .res 2 (.reg .e)
  | .res_2_H => .res 2 (.reg .h)
  | .res_2_L => .res 2 (.reg .l)
  | .res_2_atHL => .res 2 .atHL
  | .res_2_A => .res 2 (.reg .a)
  | .res_3_B => .res 3 (.reg .b)
  | .res_3_C => .res 3 (.reg .c)
  | .res_3_D => .res 3 (.reg .d)
  | .res_3_E => .res 3 (.reg .e)
  | .res_3_H => .res 3 (.reg .h)
  | .res_3_L => .res 3 (.reg .l)
  | .res_3_atHL => .res 3 .atHL
  | .res_3_A => .res 3 (.reg .a)
  | .res_4_B => .res 4 (.reg .b)
  | .res_4_C => .res 4 (.reg .c)
  | .res_4_D => .res 4 (.reg .d)
  | .res_4_E => .res 4 (.reg .e)
  | .res_4_H => .res 4 (.reg .h)
  | .res_4_L => .res 4 (.reg .l)
  | .res_4_atHL => .res 4 .atHL
  | .res_4_A => .res 4 (.reg .a)
  | .res_5_B => .res 5 (.reg .b)
  | .res_5_C => .res 5 (.reg .c)
  | .res_5_D => .res 5 (.reg .d)
  | .res_5_E => .res 5 (.reg .e)
  | .res_5_H => .res 5 (.reg .h)
  | .res_5_L => .res 5 (.reg .l)
  | .res_5_atHL => .res 5 .atHL
  | .res_5_A => .res 5 (.reg .a)
  | .res_6_B => .res 6 (.reg .b)
  | .res_6_C => .res 6 (.reg .c)
  | .res_6_D => .res 6 (.reg .d)
  | .res_6_E => .res 6 (.reg .e)
  | .res_6_H => .res 6 (.reg .h)
  | .res_6_L => .res 6 (.reg .l)
  | .res_6_atHL => .res 6 .atHL
  | .res_6_A => .res 6 (.reg .a)
  | .res_7_B => .res 7 (.reg .b)
  | .res_7_C => .res 7 (.reg .c)
  | .res_7_D => .res 7 (.reg .d)
  | .res_7_E => .res 7 (.reg .e)
  | .res_7_H => .res 7 (.reg .h)
  | .res_7_L => .res 7 (.reg .l)
  | .res_7_atHL => .res 7 .atHL
  | .res_7_A => .res 7 (.reg .a)
  | .set_0_B => .set 0 (.reg .b)
  | .set_0_C => .set 0 (.reg .c)
  | .set_0_D => .set 0 (.reg .d)
  | .set_0_E => .set 0 (.reg .e)
  | .set_0_H => .set 0 (.reg .h)
  | .set_0_L => .set 0 (.reg .l)
  | .set_0_atHL => .set 0 .atHL
  | .set_0_A => .set 0 (.reg .a)
  | .set_1_B => .set 1 (.reg .b)
  | .set_1_C => .set 1 (.reg .c)
  | .set_1_D => .set 1 (.reg .d)
  | .set_1_E => .set 1 (.reg .e)
  | .set_1_H => .set 1 (.reg .h)
  | .set_1_L => .set 1 (.reg .l)
  | .set_1_atHL => .set 1 .atHL
  | .set_1_A => .set 1 (.reg .a)
  | .set_2_B => .set 2 (.reg .b)
  | .set_2_C => .set 2 (.reg .c)
  | .set_2_D => .set 2 (.reg .d)
  | .set_2_E => .set 2 (.reg .e)
  | .set_2_H => .set 2 (.reg .h)
  | .set_2_L => .set 2 (.reg .l)
  | .set_2_atHL => .set 2 .atHL
  | .set_2_A => .set 2 (.reg .a)
  | .set_3_B => .set 3 (.reg .b)
  | .set_3_C => .set 3 (.reg .c)
  | .set_3_D => .set 3 (.reg .d)
  | .set_3_E => .set 3 (.reg .e)
  | .set_3_H => .set 3 (.reg .h)
  | .set_3_L => .set 3 (.reg .l)
  | .set_3_atHL => .set 3 .atHL
  | .set_3_A => .set 3 (.reg .a)
  | .set_4_B => .set 4 (.reg .b)
  | .set_4_C => .set 4 (.reg .c)
  | .set_4_D => .set 4 (.reg .d)
  | .set_4_E => .set 4 (.reg .e)
  | .set_4_H => .set 4 (.reg .h)
  | .set_4_L => .set 4 (.reg .l)
  | .set_4_atHL => .set 4 .atHL
  | .set_4_A => .set 4 (.reg .a)
  | .set_5_B => .set 5 (.reg .b)
  | .set_5_C => .set 5 (.reg .c)
  | .set_5_D => .set 5 (.reg .d)
  | .set_5_E => .set 5 (.reg .e)
  | .set_5_H => .set 5 (.reg .h)
  | .set_5_L => .set 5 (.reg .l)
  | .set_5_atHL => .set 5 .atHL
  | .set_5_A => .set 5 (.reg .a)
  | .set_6_B => .set 6 (.reg .b)
  | .set_6_C => .set 6 (.reg .c)
  | .set_6_D => .set 6 (.reg .d)
  | .set_6_E => .set 6 (.reg .e)
  | .set_6_H => .set 6 (.reg .h)
  | .set_6_L => .set 6 (.reg .l)
  | .set_6_atHL => .set 6 .atHL
  | .set_6_A => .set 6 (.reg .a)
  | .set_7_B => .set 7 (.reg .b)
  | .set_7_C => .set 7 (.reg .c)
  | .set_7_D => .set 7 (.reg .d)
  | .set_7_E => .set 7 (.reg .e)
  | .set_7_H => .set 7 (.reg .h)
  | .set_7_L => .set 7 (.reg .l)
  | .set_7_atHL => .set 7 .atHL
  | .set_7_A => .set 7 (.reg .a)

end Sys2Proof
end

