-- ==== Sys2Proof/Machine/Port.lean ====
section
/-! DEFINITION. Machine/Port.lean: the block as its host sees it (spec/00_scope.md rule R3): the step input with the run
status it leaves (spec/40_sequencer.md rules R101, R104), and the observation port.  The reset input is
`State.applyReset` in Ops. -/

namespace Sys2Proof.Machine

/-- The state after a step request.  A step that ends Ok gives its next state; any other outcome leaves the registers,
flags and PC as they were, the bus as the accesses issued left it, and the outcome in the run status (rule R101). -/
def State.request (s : State) : State :=
  match step s with
  | .next t => t
  | .fault f => s.stopWith f.outcome f.bus
  | .refused r => s.stopWith r.outcome (r.bus s)

/-- The state after `n` step requests: the run of rule R336 up to the host's step bound. -/
def State.requests : Nat → State → State
  | 0, s => s
  | n + 1, s => State.requests n s.request

/-- What the observation port shows between steps (rule R3): A to L, the four flags, PC and SP. -/
structure Observation where
  regs : Regs
  flags : Flags
  pc : Word
  sp : Word
  deriving DecidableEq, Repr

/-- The observation port (rule R3). -/
def State.observe (s : State) : Observation := { regs := s.regs, flags := s.flags, pc := s.pc, sp := s.sp }

end Sys2Proof.Machine
end

