-- ==== Sys2Proof/Machine/Run.lean ====
section
/-! DEFINITION. Machine/Run.lean: runs and where they end (spec/70_reset_and_hazards.md rule R336). -/

namespace Sys2Proof.Machine

/-- PC addresses a self-loop, `JR -2` or `JP` to itself: case (c) of the end of a run (rule R336).  The bytes are those the
bus gives the fetch at PC, read in the order of rule R57, on any bus of rule R49.  DESIGN CHOICE (log entry 14): rule R336
speaks of bytes and not of reads, so looking does not advance the bus, and where a read of them would fail there is no
self-loop. -/
def State.atSelfLoop (s : State) : Bool :=
  match s.bus.read s.pc with
  | .fail _ _ => false
  | .byte b0 bus =>
    match bus.read (s.pc + 1) with
    | .fail _ _ => false
    | .byte b1 bus =>
      if b0 = 0x18 then b1 == 0xFE
      else if b0 = 0xC3 then
        match bus.read (s.pc + 2) with
        | .fail _ _ => false
        | .byte b2 _ => joinBytes b2 b1 == s.pc
      else false

/-- A stopped run or a self-loop: cases (a) and (c) of the end of a run (rule R336). -/
def State.atEndOfRun (s : State) : Bool :=
  match s.status with
  | .stopped _ => true
  | .running => s.atSelfLoop

/-- Where a run has ended: the steps requested before that boundary, and the state there. -/
structure RunEnd where
  steps : Nat
  state : State
  deriving DecidableEq, Repr

/-- The run from `s` to its end: the first boundary at which the run is stopped or PC addresses a self-loop, or the host's
step bound `n` if none comes before it (rule R336). -/
def State.runFrom : Nat → State → RunEnd
  | 0, s => { steps := 0, state := s }
  | n + 1, s =>
    if s.atEndOfRun then { steps := 0, state := s }
    else
      let r := State.runFrom n s.request
      { steps := r.steps + 1, state := r.state }

/-- A run of at most `n` steps, which starts from a reset (rule R336). -/
def State.runReset (n : Nat) (s : State) : RunEnd := s.applyReset.runFrom n

end Sys2Proof.Machine
end

