-- ==== Sys2Proof/Safety.lean ====
section
/-! DEFINITION. Safety.lean: what counts as a sound state, and what each instruction may touch, in the terms the
statements use. -/

namespace Sys2Proof.Machine

/-! ### States -/

/-- The memory behind the bus is in its canonical form. -/
abbrev State.Inv (s : State) : Prop := Memory.wf s.bus.cells = true

/-- The bus is the flat RAM of rule R51: every access to come is served by it. -/
abbrev State.FlatRam (s : State) : Prop := s.bus.FlatRam

/-- The instruction executes: it is tier S, or tier G and `GK_OPS = admit` (`.admitG`) (rule R4). -/
def Admitted (i : Instr) (s : State) : Prop := i.tier = .s ∨ (i.tier = .g ∧ s.params.gkOps = .admitG)

/-- The bus gives these bytes to reads at `a`, `a + 1`, … one after the other and is then `bus'` (rules R55, R57). -/
def Bus.ReadsBytes (bus : Bus) (a : Word) : List Byte → Bus → Prop
  | [], bus' => bus' = bus
  | v :: rest, bus' => ∃ bus₁, bus.read a = .byte v bus₁ ∧ Bus.ReadsBytes bus₁ (a + 1) rest bus'

/-! ### Operands -/

/-- The operand `r` reads as `v`, and the state is then `s'` (rule R107): at most the bus has moved on. -/
def ReadsOperand (s : State) (r : Opd8) (v : Byte) (s' : State) : Prop :=
  match r with
  | .reg q => s.reg q = v ∧ s' = s
  | .atHL => ∃ bus, s.bus.read (s.pair .hl) = .byte v bus ∧ s' = s.setBus bus

/-- Writing `v` to the operand `r` gives the state `s'` (rule R107). -/
def WritesOperand (s : State) (r : Opd8) (v : Byte) (s' : State) : Prop :=
  match r with
  | .reg q => s' = s.setReg q v
  | .atHL => ∃ bus, s.bus.write (s.pair .hl) v = .done bus ∧ s' = s.setBus bus

/-- A read of the operand byte `(HL)` that fails ends the instruction with that failure (the Outcomes lines of the rules
with an operand r). -/
def FailsWithTheOperandRead (i : Instr) : Prop :=
  ∀ (s : State) (info : Nat) (bus : Bus), s.bus.read (s.pair .hl) = .fail info bus →
    exec i s = .fault (.busFailure .read (s.pair .hl) none info bus)

/-- A read of an instruction byte after the opcode that fails ends the step of an instruction that is not refused with
that failure (the Outcomes lines of the rules with an immediate; rules R57, R304). -/
def FailsWithItsImmediateRead (i : Instr) : Prop :=
  ∀ (s : State) (k : Nat) (info : Nat) (bus bus' : Bus), s.status = .running → Admitted i s → 0 < k →
    k < (encode i).length → s.bus.ReadsBytes s.pc ((encode i).take k) bus →
    bus.read (s.pc + BitVec.ofNat 16 k) = .fail info bus' →
    step s = .fault (.busFailure .read (s.pc + BitVec.ofNat 16 k) none info bus')

end Sys2Proof.Machine

namespace Sys2Proof

open Machine

/-! ### Results in integers -/

/-- The value an accumulator operation computes from A = `x`, operand `y` and carry `c`, below 256 (rules R120 to R127;
for CP it is the difference that is compared with 0). -/
def AluOp.value (x y c : Nat) : AluOp → Nat
  | .add => (x + y) % 256
  | .adc => (x + y + c) % 256
  | .sub => (x + 256 - y) % 256
  | .sbc => (x + 256 - y - c) % 256
  | .and => x &&& y
  | .xor => x ^^^ y
  | .or => x ||| y
  | .cp => (x + 256 - y) % 256

/-- The flags an accumulator operation leaves (rules R120 to R127). -/
def AluOp.flagsLeft (x y c : Nat) (op : AluOp) : Flags :=
  let z := op.value x y c == 0
  match op with
  | .add => ⟨z, false, decide (15 < x % 16 + y % 16), decide (255 < x + y)⟩
  | .adc => ⟨z, false, decide (15 < x % 16 + y % 16 + c), decide (255 < x + y + c)⟩
  | .sub => ⟨z, true, decide (x % 16 < y % 16), decide (x < y)⟩
  | .sbc => ⟨z, true, decide (x % 16 < y % 16 + c), decide (x < y + c)⟩
  | .and => ⟨z, false, true, false⟩
  | .xor => ⟨z, false, false, false⟩
  | .or => ⟨z, false, false, false⟩
  | .cp => ⟨z, true, decide (x % 16 < y % 16), decide (x < y)⟩

/-- A after an accumulator operation: CP does not write it (rule R127). -/
def AluOp.accLeft (x y c : Nat) : AluOp → Nat
  | .cp => x
  | op => op.value x y c

/-- The result of a rotate or shift of the byte `v` with carry `c`, below 256 (rules R160 to R171). -/
def RotOp.value (v c : Nat) : RotOp → Nat
  | .rlc => (2 * v + v / 128) % 256
  | .rrc => v / 2 + 128 * (v % 2)
  | .rl => (2 * v + c) % 256
  | .rr => v / 2 + 128 * c
  | .sla => 2 * v % 256
  | .sra => v / 2 + 128 * (v / 128)
  | .swap => v / 16 + 16 * (v % 16)
  | .srl => v / 2

/-- The new carry: the bit that left the byte, bit 7 to the left and bit 0 to the right; 0 for SWAP. -/
def RotOp.carryLeft (v : Nat) : RotOp → Bool
  | .rlc => decide (128 ≤ v)
  | .rl => decide (128 ≤ v)
  | .sla => decide (128 ≤ v)
  | .swap => false
  | .rrc => decide (v % 2 = 1)
  | .rr => decide (v % 2 = 1)
  | .sra => decide (v % 2 = 1)
  | .srl => decide (v % 2 = 1)

/-- The byte with two decimal digits that stands for `m`, below 100 (rule R255's BCD). -/
def bcdByte (m : Nat) : Byte := BitVec.ofNat 8 (16 * (m / 10) + m % 10)

/-! ### Operands of whole instructions -/

/-- The address of a memory operand of A (rules R206 to R209, R214 to R219). -/
def MemOpd.addr (s : State) : MemOpd → Word
  | .bc => s.pair .bc
  | .de => s.pair .de
  | .c => 0xFF00 + zext16 (s.reg .c)
  | .abs w => w
  | .high n => 0xFF00 + zext16 n

/-- HL after `(HL+)` or `(HL-)` (rules R210 to R213). -/
def HlStep.next (hl : Word) : HlStep → Word
  | .inc => hl + 1
  | .dec => hl - 1

/-! ### What each instruction may touch (the tables after rules R18 and R22, and the rules' pseudocode) -/

/-- The register of an 8-bit operand, if it is one. -/
def Opd8.regs : Opd8 → List Reg8
  | .reg r => [r]
  | .atHL => []

/-- The two registers of a pair; the low half of AF is the flags (rules R24, R25). -/
def Pair.halves : Pair → List Reg8
  | .bc => [.b, .c]
  | .de => [.d, .e]
  | .hl => [.h, .l]
  | .af => [.a]

/-- The registers of a 16-bit operand; SP is none of the seven. -/
def Reg16.halves : Reg16 → List Reg8
  | .bc => [.b, .c]
  | .de => [.d, .e]
  | .hl => [.h, .l]
  | .sp => []

/-- The 8-bit registers an accumulator operation writes: CP writes none (rule R127). -/
def AluOp.regsWritten : AluOp → List Reg8
  | .cp => []
  | .add | .adc | .sub | .sbc | .and | .xor | .or => [.a]

/-- The flags a pop writes: those in the low half of AF (rule R253). -/
def Pair.flagsPopped : Pair → Flags
  | .af => ⟨true, true, true, true⟩
  | .bc | .de | .hl => ⟨false, false, false, false⟩

/-- Whether a 16-bit operand is SP, which is none of the seven registers. -/
def Reg16.isSp : Reg16 → Bool
  | .sp => true
  | .bc | .de | .hl => false

/-- The 8-bit registers a shape writes. -/
def Form.regsWritten : Form → List Reg8
  | .alu op _ => op.regsWritten
  | .aluImm op _ => op.regsWritten
  | .inc r => r.regs
  | .dec r => r.regs
  | .incWide rr => rr.halves
  | .decWide rr => rr.halves
  | .addHl _ => [.h, .l]
  | .cpl => [.a]
  | .rotateA _ => [.a]
  | .rotate _ r => r.regs
  | .res _ r => r.regs
  | .set _ r => r.regs
  | .load r _ => [r]
  | .loadFromHl r => [r]
  | .loadImm r _ => [r]
  | .loadWord p _ => (wordPair p).halves
  | .loadA _ => [.a]
  | .loadAStep _ => [.a, .h, .l]
  | .storeAStep _ => [.h, .l]
  | .daa => [.a]
  | .loadHlSp _ => [.h, .l]
  | .pop p => p.halves
  | .ccf | .scf | .bit _ _ | .jump _ | .jumpIf _ _ | .jumpRel _ | .jumpRelIf _ _ | .jumpHl | .storeToHl _
  | .storeImm _ | .storeA _ | .nop | .di | .storeSp _ | .loadSp _ | .loadSpHl | .addSp _ | .push _ | .call _
  | .callIf _ _ | .restart _ | .ret | .retIf _ | .halt | .stop | .ei | .reti | .undefined _ | .extended _ => []

/-- Which of the four flags a shape writes, as `Flags` with `true` for written. -/
def Form.flagsWritten : Form → Flags
  | .alu _ _ => ⟨true, true, true, true⟩
  | .aluImm _ _ => ⟨true, true, true, true⟩
  | .inc _ => ⟨true, true, true, false⟩
  | .dec _ => ⟨true, true, true, false⟩
  | .addHl _ => ⟨false, true, true, true⟩
  | .ccf => ⟨false, true, true, true⟩
  | .scf => ⟨false, true, true, true⟩
  | .cpl => ⟨false, true, true, false⟩
  | .rotateA _ => ⟨true, true, true, true⟩
  | .rotate _ _ => ⟨true, true, true, true⟩
  | .bit _ _ => ⟨true, true, true, false⟩
  | .daa => ⟨true, false, true, true⟩
  | .addSp _ => ⟨true, true, true, true⟩
  | .loadHlSp _ => ⟨true, true, true, true⟩
  | .pop p => p.flagsPopped
  | .incWide _ | .decWide _ | .res _ _ | .set _ _ | .jump _ | .jumpIf _ _ | .jumpRel _ | .jumpRelIf _ _
  | .jumpHl | .load _ _ | .loadFromHl _ | .storeToHl _ | .loadImm _ _ | .storeImm _ | .loadWord _ _ | .loadA _
  | .storeA _ | .loadAStep _ | .storeAStep _ | .nop | .di | .storeSp _ | .loadSp _ | .loadSpHl | .push _
  | .call _ | .callIf _ _ | .restart _ | .ret | .retIf _ | .halt | .stop | .ei | .reti | .undefined _
  | .extended _ => ⟨false, false, false, false⟩

/-- Whether a shape writes SP. -/
def Form.writesSp : Form → Bool
  | .incWide rr => rr.isSp
  | .decWide rr => rr.isSp
  | .loadSp _ => true
  | .loadSpHl => true
  | .addSp _ => true
  | .push _ => true
  | .pop _ => true
  | .call _ => true
  | .callIf _ _ => true
  | .restart _ => true
  | .ret => true
  | .retIf _ => true
  | .alu _ _ | .aluImm _ _ | .inc _ | .dec _ | .addHl _ | .ccf | .scf | .cpl | .rotateA _ | .rotate _ _
  | .bit _ _ | .res _ _ | .set _ _ | .jump _ | .jumpIf _ _ | .jumpRel _ | .jumpRelIf _ _ | .jumpHl | .load _ _
  | .loadFromHl _ | .storeToHl _ | .loadImm _ _ | .storeImm _ | .loadWord _ _ | .loadA _ | .storeA _
  | .loadAStep _ | .storeAStep _ | .nop | .di | .daa | .storeSp _ | .loadHlSp _ | .halt | .stop | .ei | .reti
  | .undefined _ | .extended _ => false

/-- Where an 8-bit operand that is written back lies in memory, if it does. -/
def Opd8.storesAt (s : State) : Opd8 → List Word
  | .reg _ => []
  | .atHL => [s.pair .hl]

/-- The addresses of the bytes an instruction of this shape stores, from the state it starts in. -/
def Form.storesAt (s : State) : Form → List Word
  | .inc r => r.storesAt s
  | .dec r => r.storesAt s
  | .rotate _ r => r.storesAt s
  | .res _ r => r.storesAt s
  | .set _ r => r.storesAt s
  | .storeToHl _ => [s.pair .hl]
  | .storeImm _ => [s.pair .hl]
  | .storeA m => [m.addr s]
  | .storeAStep _ => [s.pair .hl]
  | .storeSp w => [w, w + 1]
  | .push _ => [s.sp - 1, s.sp - 2]
  | .call _ => [s.sp - 1, s.sp - 2]
  | .callIf cc _ => if condHolds s.flags cc then [s.sp - 1, s.sp - 2] else []
  | .restart _ => [s.sp - 1, s.sp - 2]
  | .alu _ _ | .aluImm _ _ | .incWide _ | .decWide _ | .addHl _ | .ccf | .scf | .cpl | .rotateA _ | .bit _ _
  | .jump _ | .jumpIf _ _ | .jumpRel _ | .jumpRelIf _ _ | .jumpHl | .load _ _ | .loadFromHl _ | .loadImm _ _
  | .loadWord _ _ | .loadA _ | .loadAStep _ | .nop | .di | .daa | .loadSp _ | .loadSpHl | .addSp _ | .loadHlSp _
  | .pop _ | .ret | .retIf _ | .halt | .stop | .ei | .reti | .undefined _ | .extended _ => []

/-- The bus accesses of an 8-bit operand that is read: one for `(HL)`. -/
def Opd8.accesses : Opd8 → Nat
  | .reg _ => 0
  | .atHL => 1

/-- How many data accesses an instruction of this shape issues, after its bytes are fetched (rule R57). -/
def Form.accesses (f : Flags) : Form → Nat
  | .alu _ r => r.accesses
  | .inc r => 2 * r.accesses
  | .dec r => 2 * r.accesses
  | .rotate _ r => 2 * r.accesses
  | .bit _ r => r.accesses
  | .res _ r => 2 * r.accesses
  | .set _ r => 2 * r.accesses
  | .loadFromHl _ => 1
  | .storeToHl _ => 1
  | .storeImm _ => 1
  | .loadA _ => 1
  | .storeA _ => 1
  | .loadAStep _ => 1
  | .storeAStep _ => 1
  | .storeSp _ => 2
  | .push _ => 2
  | .pop _ => 2
  | .call _ => 2
  | .callIf cc _ => if condHolds f cc then 2 else 0
  | .restart _ => 2
  | .ret => 2
  | .retIf cc => if condHolds f cc then 2 else 0
  | .aluImm _ _ | .incWide _ | .decWide _ | .addHl _ | .ccf | .scf | .cpl | .rotateA _ | .jump _ | .jumpIf _ _
  | .jumpRel _ | .jumpRelIf _ _ | .jumpHl | .load _ _ | .loadImm _ _ | .loadWord _ _ | .nop | .di | .daa
  | .loadSp _ | .loadSpHl | .addSp _ | .loadHlSp _ | .halt | .stop | .ei | .reti | .undefined _ | .extended _ => 0

/-- Whether an instruction of this shape sets PC to a target (rule R103), the conditional ones where they are taken. -/
def Form.setsPc (f : Flags) : Form → Bool
  | .jump _ => true
  | .jumpIf cc _ => condHolds f cc
  | .jumpRel _ => true
  | .jumpRelIf cc _ => condHolds f cc
  | .jumpHl => true
  | .call _ => true
  | .callIf cc _ => condHolds f cc
  | .restart _ => true
  | .ret => true
  | .retIf cc => condHolds f cc
  | .alu _ _ | .aluImm _ _ | .inc _ | .dec _ | .incWide _ | .decWide _ | .addHl _ | .ccf | .scf | .cpl
  | .rotateA _ | .rotate _ _ | .bit _ _ | .res _ _ | .set _ _ | .load _ _ | .loadFromHl _ | .storeToHl _
  | .loadImm _ _ | .storeImm _ | .loadWord _ _ | .loadA _ | .storeA _ | .loadAStep _ | .storeAStep _ | .nop
  | .di | .daa | .storeSp _ | .loadSp _ | .loadSpHl | .addSp _ | .loadHlSp _ | .push _ | .pop _ | .halt | .stop
  | .ei | .reti | .undefined _ | .extended _ => false

/-- The shape of an instruction with the prefix row read as the row of its second byte (rule R77). -/
def Instr.shape : Instr → Form
  | .prefixCB second => (decodeExtended second).form
  | i => i.form

end Sys2Proof
end

