-- ==== Sys2Proof/Certificates/Slice0/Obligations.lean ====
section
/-! DEFINITION. Certificates/Slice0/Obligations.lean: the statements for the provers, from the spec's numbered rules.
Statements about one family speak of its constructors through the family functions of Syntax.lean (`Instr.aluReg op r` is
`add_A_B`, `add_A_C`, …).  `exec` runs with PC at the instruction's first byte and its bytes already fetched (rule R27). -/

open Sys2Proof Sys2Proof.Machine

/-! ### Encoding (spec/30_encoding.md) -/

/-- Rules R72, R77, R78, R80: decoding the bytes of any well-formed instruction, whatever follows them, gives that
instruction, with every operand value (every constructor of Instr but `prefixCB`, which is never well-formed). -/
def Obligations.DecodingAnEncodedInstructionGivesItBack : Prop :=
  ∀ (i : Instr) (rest : List Byte), i.wellFormed = true → decode (encode i ++ rest) = .instr i rest

/-- Rule R80 the other way: what the decoder answers is well-formed, and its bytes are the ones decoded. -/
def Obligations.DecodedBytesEncodeBack : Prop :=
  ∀ (bytes rest : List Byte) (i : Instr), decode bytes = .instr i rest → i.wellFormed = true ∧ bytes = encode i ++ rest

/-- Words written out from the tables of rules R77 and R78 decode to the rows they stand for.  The last two clauses rest
on the model's choice of how a word of the opcode table is laid out as bytes (log entry 11). -/
def Obligations.WordsWrittenOutDecode : Prop :=
  decode [0x80] = .instr .add_A_B [] ∧ decode [0x34] = .instr .inc_atHL [] ∧ decode [0x3F] = .instr .ccf [] ∧
  decode [0x17] = .instr .rla [] ∧ decode [0xCB, 0x37] = .instr .swap_A [] ∧ decode [0xCB, 0x7C] = .instr .bit_7_H [] ∧
  decode [0x20, 0xFC] = .instr (.jr_NZ_e8 0xFC) [] ∧ decode [0x21, 0x34, 0x12] = .instr (.ld_HL_d16 0x1234) [] ∧
  decode [0xE0, 0x44] = .instr (.ldh_at_a8_A 0x44) [] ∧ decode [0xCD, 0x0B, 0x01] = .instr (.call_a16 0x010B) [] ∧
  decode [0x76] = .instr .halt [] ∧ decode [0xD3] = .instr (.undefined 0xD3) [] ∧ decode [0xCB] = .truncated ∧
  decodeTableWord 16 0xCB37 = some .swap_A ∧ decodeTableWord 8 0x21 = some (.ld_HL_d16 0x0000)

/-- Rule R77: every second byte after the prefix decodes, to the operation its fields x, y, z select, which is tier S. -/
def Obligations.EveryPrefixedByteDecodesByItsFields : Prop :=
  ∀ (b1 : Byte) (rest : List Byte), ∃ i : Instr, decode (0xCB :: b1 :: rest) = .instr i rest ∧ i.tier = .s ∧
    (let x := b1.toNat / 64
     let y : Fin 8 := Fin.ofNat 8 (b1.toNat / 8)
     let r := Opd8.ofCode (b1.toNat % 8)
     (x = 0 → i = .rotate (RotOp.ofCode y.val) r) ∧ (x = 1 → i = .bitTest y r) ∧ (x = 2 → i = .bitRes y r) ∧
     (x = 3 → i = .bitSet y r))

/-- Rule R81, which marks itself as derived from R78 and R71: the length of a defined instruction, from its first byte
alone. -/
def Obligations.LengthFollowsFromTheFirstByte : Prop :=
  ∀ i : Instr, i.wellFormed = true → i.tier ≠ .u →
    i.length =
      if firstByte i ∈ ([0x06, 0x0E, 0x10, 0x16, 0x18, 0x1E, 0x20, 0x26, 0x28, 0x2E, 0x30, 0x36, 0x38, 0x3E, 0xC6, 0xCB,
        0xCE, 0xD6, 0xDE, 0xE0, 0xE6, 0xE8, 0xEE, 0xF0, 0xF6, 0xF8, 0xFE] : List Byte) then 2
      else if firstByte i ∈ ([0x01, 0x08, 0x11, 0x21, 0x31, 0xC2, 0xC3, 0xC4, 0xCA, 0xCC, 0xCD, 0xD2, 0xD4, 0xDA, 0xDC,
        0xEA, 0xFA] : List Byte) then 3
      else 1

/-- Rule R77: the prefix row with second byte `b` does what the instruction of that second byte does
(constructor `prefixCB`). -/
def Obligations.PrefixRowRunsTheExtendedInstruction : Prop :=
  ∀ (b : Byte) (s : State), exec (.prefixCB b) s = exec (decodeExtended b) s

/-! ### The register file (spec/10_state.md) -/

/-- Rules R20 and R21: the flags codec and its law.  The other law R21 notes, which it marks as derived, is
`AfAndTheFlagsCodecDropTheLowNibble`. -/
def Obligations.FlagsCodecRoundTrips : Prop :=
  (∀ f : Flags, f.encode.toNat = 128 * f.z.toNat + 64 * f.n.toNat + 32 * f.h.toNat + 16 * f.c.toNat) ∧
  (∀ b : Byte, Flags.decode b = { z := b.getLsbD 7, n := b.getLsbD 6, h := b.getLsbD 5, c := b.getLsbD 4 }) ∧
  (∀ f : Flags, Flags.decode f.encode = f)

/-- Rules R23, R24, R25: a pair reads as its live halves; after a pair is written its halves and the pair read what was
written; nothing else of the register file changes.  What AF reads as afterwards, which R25 marks as derived, is
`AfAndTheFlagsCodecDropTheLowNibble`. -/
def Obligations.PairViewsReadTheirHalves : Prop :=
  (∀ s : State,
    (s.pair .bc).toNat = 256 * s.regs.b.toNat + s.regs.c.toNat ∧
    (s.pair .de).toNat = 256 * s.regs.d.toNat + s.regs.e.toNat ∧
    (s.pair .hl).toNat = 256 * s.regs.h.toNat + s.regs.l.toNat ∧
    (s.pair .af).toNat = 256 * s.regs.a.toNat + s.flags.encode.toNat) ∧
  (∀ (s : State) (w : Word),
    s.setPair .bc w = { s with regs := { s.regs with b := hi8 w, c := lo8 w } } ∧
    s.setPair .de w = { s with regs := { s.regs with d := hi8 w, e := lo8 w } } ∧
    s.setPair .hl w = { s with regs := { s.regs with h := hi8 w, l := lo8 w } } ∧
    s.setPair .af w = { s with regs := { s.regs with a := hi8 w }, flags := Flags.decode (lo8 w) }) ∧
  (∀ (s : State) (p : Pair) (w : Word), p ≠ .af → (s.setPair p w).pair p = w)

/-- What rules R21 and R25 mark as derived from R20 and R21: "encode(decode(b)) = b & 0xF0", and "a read of AF after
pair(AF) <- w yields w & 0xFFF0". -/
def Obligations.AfAndTheFlagsCodecDropTheLowNibble : Prop :=
  (∀ b : Byte, (Flags.decode b).encode = b &&& 0xF0) ∧
  (∀ (s : State) (w : Word), (s.setPair .af w).pair .af = w &&& 0xFFF0)

/-- Rule R109: the conditions. -/
def Obligations.ConditionsReadTheFlags : Prop :=
  ∀ f : Flags, condHolds f .nz = !f.z ∧ condHolds f .z = f.z ∧ condHolds f .nc = !f.c ∧ condHolds f .c = f.c

/-- Rules R31, R330 and R331: what the reset input leaves, whatever the state before, for every value of the parameters;
memory is not touched. -/
def Obligations.ResetClearsTheRegisterFile : Prop :=
  ∀ s : State, s.applyReset =
    { regs := { a := 0, b := 0, c := 0, d := 0, e := 0, h := 0, l := 0 },
      flags := { z := false, n := false, h := false, c := false },
      pc := s.params.entryPc, sp := s.params.initSp, status := .running, bus := s.bus, params := s.params }

/-- The model's reset state is the reset input's, over the parameter values and the empty flat RAM the model chose (log
entries 3, 4 and 5), and it meets the invariant. -/
def Obligations.ResetStateIsSound : Prop :=
  State.reset.Inv ∧ State.reset.FlatRam ∧ State.reset.applyReset = State.reset ∧ State.reset.status = .running ∧
  State.reset.params = { entryPc := 0, initSp := 0, gkOps := .admitG } ∧ ∀ a : Word, State.reset.bus.peek a = 0

/-! ### The bus (spec/20_memory.md) -/

/-- Rules R51 and R61: on the flat-RAM bus a read gives the byte there and changes nothing; after a write the byte written
is read, every other byte is untouched, and the bus is still the flat RAM; no access fails. -/
def Obligations.FlatRamKeepsWhatIsWritten : Prop :=
  ∀ (bus : Bus) (a : Word) (v : Byte), bus.FlatRam → Memory.wf bus.cells = true →
    (∀ b : Word, bus.read b = .byte (bus.peek b) bus) ∧
    ∃ bus' : Bus, bus.write a v = .done bus' ∧ bus'.FlatRam ∧ Memory.wf bus'.cells = true ∧
      bus'.read a = .byte v bus' ∧ ∀ b : Word, b ≠ a → bus'.read b = .byte (bus.peek b) bus'

/-- Rule R64: a store into code is seen by the next fetch of its address: after `LD (a16),A` has stored the opcode of a
one-byte tier-S instruction, a step with PC there runs it (constructors `ld_at_a16_A` and the one-byte ones). -/
def Obligations.StoredOpcodeIsFetched : Prop :=
  ∀ (s t : State) (w : Word) (i : Instr), s.FlatRam → s.Inv → s.status = .running → i.wellFormed = true → i.tier = .s →
    encode i = [s.regs.a] → exec (.ld_at_a16_A w) s = .next t → step { t with pc := w } = exec i { t with pc := w }

/-! ### The step (spec/40_sequencer.md, 60_exceptions.md) -/

/-- Rule R100: where the bytes in RAM at PC decode to `i`, a step on the flat-RAM bus is exec of `i` there. -/
def Obligations.StepRunsTheDecodedInstruction : Prop :=
  ∀ (s : State) (i : Instr) (rest : List Byte), s.status = .running → s.FlatRam →
    decode [s.bus.peek s.pc, s.bus.peek (s.pc + 1), s.bus.peek (s.pc + 2)] = .instr i rest → step s = exec i s

/-- Rules R55, R57 and R100 on any bus: a step reads the instruction's bytes at PC, PC + 1, … in that order, each once, and
then is exec of the instruction over the bus as those reads left it. -/
def Obligations.StepReadsTheInstructionBytesInOrder : Prop :=
  ∀ (s : State) (i : Instr) (bus : Bus), s.status = .running → i.wellFormed = true →
    (i.tier = .g → s.params.gkOps = .admitG) → s.bus.ReadsBytes s.pc (encode i) bus → step s = exec i (s.setBus bus)

/-- Rule R104: a stopped run has no step; only reset makes it run again.  That `step` itself answers the same state, where
rule R100 says "no step", is the model's choice (log entry 2). -/
def Obligations.StoppedRunStaysStopped : Prop :=
  ∀ (s : State) (o : StopOutcome), s.status = .stopped o →
    step s = .next s ∧ (∀ n : Nat, s.requests n = s) ∧ s.applyReset.status = .running

/-- Rules R79 and R301: at one of the eleven undefined bytes, and at no other byte, a step is a decode failure that records
PC and the byte, with only the opcode fetch issued (constructor `undefined`, whose meaning stops on every path). -/
def Obligations.UndefinedBytesAreDecodeFailures : Prop :=
  (∀ (s : State) (b : Byte) (bus : Bus), s.status = .running → s.bus.read s.pc = .byte b bus →
    (b ∈ ([0xD3, 0xDB, 0xDD, 0xE3, 0xE4, 0xEB, 0xEC, 0xED, 0xF4, 0xFC, 0xFD] : List Byte) →
      step s = .fault (.decodeFailure s.pc b bus)) ∧
    (b ∉ ([0xD3, 0xDB, 0xDD, 0xE3, 0xE4, 0xEB, 0xEC, 0xED, 0xF4, 0xFC, 0xFD] : List Byte) →
      ∀ a v bus', step s ≠ .fault (.decodeFailure a v bus'))) ∧
  (∀ (s : State) (b : Byte), exec (.undefined b) s = .fault (.decodeFailure s.pc b s.bus))

/-- Rules R241 and R265 to R268: HALT, STOP, EI and RETI are refused under every value of GK_OPS, with only the opcode
fetch issued (constructors `halt`, `stop`, `ei`, `reti`, whose meanings stop on every path). -/
def Obligations.TierXIsAlwaysRefused : Prop :=
  (∀ p ∈ ([(0x76, "HALT"), (0x10, "STOP"), (0xFB, "EI"), (0xD9, "RETI")] : List (Byte × String)),
    ∀ (s : State) (bus : Bus), s.status = .running → s.bus.read s.pc = .byte p.1 bus →
      step s = .refused (.tierX s.pc [p.1] p.2 bus)) ∧
  (∀ s : State, exec .halt s = .refused (.tierX s.pc [0x76] "HALT" s.bus) ∧
    exec .stop s = .refused (.tierX s.pc [0x10] "STOP" s.bus) ∧ exec .ei s = .refused (.tierX s.pc [0xFB] "EI" s.bus) ∧
    exec .reti s = .refused (.tierX s.pc [0xD9] "RETI" s.bus)) ∧
  (Instr.halt.length = 1 ∧ Instr.stop.length = 2 ∧ Instr.ei.length = 1 ∧ Instr.reti.length = 1)

/-- Rule R240: under GK_OPS = refuse a tier-G byte is refused by its mnemonic, with only the opcode fetch issued; under
admit (`.admitG`) the step executes the instruction. -/
def Obligations.TierGIsRefusedByDefault : Prop :=
  (∀ p ∈ ([(0x00, "NOP"), (0x08, "LD (a16),SP"), (0x27, "DAA"), (0x31, "LD SP,d16"), (0xF9, "LD SP,HL"), (0xC0, "RET NZ"),
      (0xC8, "RET Z"), (0xD0, "RET NC"), (0xD8, "RET C"), (0xC9, "RET"), (0xC1, "POP BC"), (0xD1, "POP DE"),
      (0xE1, "POP HL"), (0xF1, "POP AF"), (0xC5, "PUSH BC"), (0xD5, "PUSH DE"), (0xE5, "PUSH HL"), (0xF5, "PUSH AF"),
      (0xC4, "CALL NZ,a16"), (0xCC, "CALL Z,a16"), (0xD4, "CALL NC,a16"), (0xDC, "CALL C,a16"), (0xCD, "CALL a16"),
      (0xC7, "RST 00H"), (0xCF, "RST 08H"), (0xD7, "RST 10H"), (0xDF, "RST 18H"), (0xE7, "RST 20H"), (0xEF, "RST 28H"),
      (0xF7, "RST 30H"), (0xFF, "RST 38H"), (0xC6, "ADD A,d8"), (0xCE, "ADC A,d8"), (0xD6, "SUB d8"), (0xDE, "SBC A,d8"),
      (0xE6, "AND d8"), (0xEE, "XOR d8"), (0xF6, "OR d8"), (0xFE, "CP d8"), (0xE8, "ADD SP,e8"), (0xF8, "LD HL,SP+e8"),
      (0xF3, "DI")] : List (Byte × String)),
    ∀ (s : State) (bus : Bus), s.status = .running → s.params.gkOps = .refuse → s.bus.read s.pc = .byte p.1 bus →
      step s = .refused (.tierG s.pc [p.1] p.2 bus)) ∧
  (∀ (s : State) (i : Instr) (bus : Bus), s.status = .running → s.params.gkOps = .admitG → i.tier = .g →
    s.bus.ReadsBytes s.pc (encode i) bus → step s = exec i (s.setBus bus))

/-- Rule R304, which marks itself as derived, conditions (1), (3) and (5) for the instruction bytes: a failing fetch
ends the step with the failure of that very access, at PC, at PC + 1 or at PC + 2, the immediate bytes only where the
instruction is not refused. -/
def Obligations.FailingFetchEndsTheStep : Prop :=
  ∀ (s : State) (info : Nat) (bus : Bus), s.status = .running →
    (s.bus.read s.pc = .fail info bus → step s = .fault (.busFailure .read s.pc none info bus)) ∧
    (∀ (b0 : Byte) (bus₁ : Bus), s.bus.read s.pc = .byte b0 bus₁ → bus₁.read (s.pc + 1) = .fail info bus →
      b0 = 0xCB ∨ (operandCount b0 ≠ 0 ∧ (byteTier b0 = .g → s.params.gkOps = .admitG)) →
      step s = .fault (.busFailure .read (s.pc + 1) none info bus)) ∧
    (∀ (b0 b1 : Byte) (bus₁ bus₂ : Bus), s.bus.read s.pc = .byte b0 bus₁ → bus₁.read (s.pc + 1) = .byte b1 bus₂ →
      bus₂.read (s.pc + 2) = .fail info bus → operandCount b0 = 2 → (byteTier b0 = .g → s.params.gkOps = .admitG) →
      step s = .fault (.busFailure .read (s.pc + 2) none info bus))

/-- Rules R101, R105 and R303: a step that does not end Ok leaves the registers, flags, PC, SP and parameters as they were
and records its outcome in the run status. -/
def Obligations.StoppedStepKeepsTheRegisterFile : Prop :=
  ∀ s : State, s.status = .running → (∀ t, step s ≠ .next t) →
    s.request.observe = s.observe ∧ s.request.params = s.params ∧
    ∃ o : StopOutcome, s.request.status = .stopped o ∧
      ((∃ f, step s = .fault f ∧ o = f.outcome) ∨ (∃ r, step s = .refused r ∧ o = r.outcome))

/-- Rule R101: with GK_OPS = refuse, where only tier-S instructions execute, a step that does not end Ok has written no
byte of the RAM: the one data write of a tier-S instruction is its last access.  That the RAM is as it was also where this
write is the access that fails is the model's choice (log entry 7). -/
def Obligations.StoppedTierSStepHasWrittenNothing : Prop :=
  ∀ s : State, s.params.gkOps = .refuse → s.status = .running → (∀ t, step s ≠ .next t) →
    ∀ a : Word, s.request.bus.peek a = s.bus.peek a

/-- Rules R28, R101 and R240 to R263: a decode failure, a refusal and the failure of an instruction whose shape stores at
most one byte leave memory as it was, on every instruction; where a second write fails the first may have happened, only
to the addresses the shape stores to.  That an access that fails leaves the RAM as it was is the model's choice (log
entry 7). -/
def Obligations.FaultTouchesOnlyTheStoredBytes : Prop :=
  ∀ (i : Instr) (s : State) (f : Fault), exec i s = .fault f →
    (∀ a : Word, a ∉ i.shape.storesAt s → f.bus.peek a = s.bus.peek a) ∧
    ((i.shape.storesAt s).length ≤ 1 → f.bus.cells = s.bus.cells)

/-! ### Invariants of every step -/

/-- Every step keeps the memory in its canonical form, and so does every step request, one that stops the run included. -/
def Obligations.StepKeepsTheMemoryCanonical : Prop :=
  ∀ s : State, s.Inv → (∀ t, step s = .next t → t.Inv) ∧ s.request.Inv

/-- Rules R6, R17 and R100: no step changes a parameter, and a step that ends Ok leaves the run status Running. -/
def Obligations.StepKeepsParametersAndStatus : Prop :=
  ∀ s t : State, step s = .next t → t.params = s.params ∧ t.status = s.status

/-- Rules R51 and R61: on the flat-RAM bus no step ends with a bus failure, and the bus stays the flat RAM. -/
def Obligations.FlatRamNeverFails : Prop :=
  ∀ s : State, s.FlatRam → (∀ k a v info bus, step s ≠ .fault (.busFailure k a v info bus)) ∧ s.request.FlatRam

/-- Rules R51 and R100: the flat-RAM bus never fails, so on it every admitted instruction ends Ok, which takes in every
constructor of Instr but the five that always stop; so does `prefixCB`. -/
def Obligations.AdmittedInstructionsCompleteOnFlatRam : Prop :=
  ∀ (i : Instr) (s : State), s.FlatRam → Admitted i s ∨ (∃ b, i = .prefixCB b) →
    ∃ t : State, exec i s = .next t ∧ t.FlatRam ∧ t.params = s.params ∧ t.status = s.status

/-- Rules R57 and R58: an instruction that ends Ok has issued exactly the data accesses of its pseudocode, each once: it
has used up that many answers of the bus. -/
def Obligations.InstructionsIssueExactlyTheirAccesses : Prop :=
  ∀ (i : Instr) (s t : State), exec i s = .next t → t.bus.script = s.bus.script.drop (i.shape.accesses s.flags)

/-- Rule R302: an admitted instruction whose pseudocode has no data access ends Ok on every bus. -/
def Obligations.RegisterOnlyInstructionsNeverFail : Prop :=
  ∀ (i : Instr) (s : State), Admitted i s → i.shape.accesses s.flags = 0 → ∃ t : State, exec i s = .next t ∧ t.bus = s.bus

/-! ### What every instruction leaves alone -/

/-- The frame of memory (every constructor): every byte outside the addresses the instruction stores to reads as before.
For a form that stores nothing the list is empty, and every byte reads as before. -/
def Obligations.MemoryOutsideTheStoreIsUnchanged : Prop :=
  ∀ (i : Instr) (s t : State), exec i s = .next t → ∀ a : Word, a ∉ i.shape.storesAt s → t.bus.peek a = s.bus.peek a

/-- The frame of the registers (every constructor): the table after rule R18, and the tier-G rules. -/
def Obligations.OtherRegistersAreUnchanged : Prop :=
  ∀ (i : Instr) (s t : State), exec i s = .next t →
    (∀ r : Reg8, r ∉ i.shape.regsWritten → t.reg r = s.reg r) ∧ (i.shape.writesSp = false → t.sp = s.sp)

/-- The frame of the flags (every constructor): the table after rule R22, and the tier-G rules. -/
def Obligations.OtherFlagsAreUnchanged : Prop :=
  ∀ (i : Instr) (s t : State), exec i s = .next t →
    (i.shape.flagsWritten.z = false → t.flags.z = s.flags.z) ∧ (i.shape.flagsWritten.n = false → t.flags.n = s.flags.n) ∧
    (i.shape.flagsWritten.h = false → t.flags.h = s.flags.h) ∧ (i.shape.flagsWritten.c = false → t.flags.c = s.flags.c)

/-- Rule R28: in tier S only INC SP and DEC SP write SP (every tier-S constructor). -/
def Obligations.TierSKeepsSpButForIncAndDec : Prop :=
  ∀ (i : Instr) (s t : State), i.tier = .s → i ≠ .inc_SP → i ≠ .dec_SP → exec i s = .next t → t.sp = s.sp

/-- Rule R103: an instruction that names no PC target, or a conditional one not taken, ends with PC plus its length, modulo
65536 (every constructor but `prefixCB`). -/
def Obligations.PcAdvancesByTheLength : Prop :=
  ∀ (i : Instr) (s t : State), i.wellFormed = true → exec i s = .next t → i.form.setsPc s.flags = false →
    t.pc = s.pc + BitVec.ofNat 16 i.length

/-- Rule R4 with decision D2: what a tier-S instruction does does not depend on the parameters, GK_OPS among them; it never
is refused. -/
def Obligations.TierSIgnoresTheParameters : Prop :=
  ∀ (i : Instr) (s : State) (p : Params), i.tier = .s →
    (∀ t, exec i s = .next t → exec i { s with params := p } = .next { t with params := p }) ∧
    (∀ f, exec i s = .fault f → exec i { s with params := p } = .fault f) ∧ (∀ r, exec i s ≠ .refused r)

/-- Rule R336 (c), with what it marks as derived from R190 and R192, at a self-loop on any bus: a step changes no
register, flag or RAM byte; on the flat RAM it changes nothing at all, so any number of further step requests leaves the same
state; and a run that comes to the self-loop at its m-th boundary, with no end of run before it and within the step bound,
ends there with that state (constructors `jr_e8` and `jp_a16`).  That the bytes PC addresses on another bus than the flat
RAM are those it gives the fetch is the model's choice (log entry 14). -/
def Obligations.SelfLoopLeavesTheState : Prop :=
  ∀ s : State, s.status = .running → s.atSelfLoop = true →
    (∃ bus : Bus, step s = .next (s.setBus bus) ∧ bus.cells = s.bus.cells) ∧
    (s.FlatRam → step s = .next s ∧ ∀ n : Nat, s.requests n = s) ∧
    (∀ (start : State) (m n : Nat), m ≤ n → start.requests m = s → (∀ j < m, (start.requests j).atEndOfRun = false) →
      start.runFrom n = { steps := m, state := s })

/-! ### Results: arithmetic and logic (spec/41_alu8.md, 42, 43) -/

/-- Rules R120 to R127: ADD, ADC, SUB, SBC, AND, XOR, OR and CP with a register or `(HL)` (the constructors of
`Instr.aluReg`). -/
def Obligations.AccumulatorOperationsOnAnOperand : Prop :=
  ∀ (op : AluOp) (r : Opd8),
    encode (.aluReg op r) = [BitVec.ofNat 8 (0x80 + 8 * op.code + r.code)] ∧
    (∀ (s s' : State) (v : Byte), ReadsOperand s r v s' →
      let x := s.regs.a.toNat
      let c := s.flags.c.toNat
      exec (.aluReg op r) s = .next { s' with
        regs := { s.regs with a := BitVec.ofNat 8 (op.accLeft x v.toNat c) }
        flags := op.flagsLeft x v.toNat c
        pc := s.pc + 1 }) ∧
    FailsWithTheOperandRead (.aluReg op .atHL)

/-- Rules R244 to R251: the same with an immediate byte, tier G (the constructors of `Instr.aluImm`). -/
def Obligations.AccumulatorOperationsOnAnImmediate : Prop :=
  ∀ (op : AluOp) (v : Byte),
    encode (.aluImm op v) = [BitVec.ofNat 8 (0xC6 + 8 * op.code), v] ∧
    (∀ s : State, s.params.gkOps = .admitG →
      let x := s.regs.a.toNat
      let c := s.flags.c.toNat
      exec (.aluImm op v) s = .next { s with
        regs := { s.regs with a := BitVec.ofNat 8 (op.accLeft x v.toNat c) }
        flags := op.flagsLeft x v.toNat c
        pc := s.pc + 2 }) ∧
    FailsWithItsImmediateRead (.aluImm op v)

/-- Rules R140 and R141: INC and DEC of a register or `(HL)` (the constructors of `Instr.incReg` and `Instr.decReg`). -/
def Obligations.ByteIncrementAndDecrement : Prop :=
  (∀ r : Opd8, encode (.incReg r) = [BitVec.ofNat 8 (0x04 + 8 * r.code)] ∧
    encode (.decReg r) = [BitVec.ofNat 8 (0x05 + 8 * r.code)]) ∧
  (∀ (r : Opd8) (s s' t : State) (v : Byte), ReadsOperand s r v s' →
    (WritesOperand s' r (BitVec.ofNat 8 ((v.toNat + 1) % 256)) t →
      exec (.incReg r) s = .next { t with
        flags := ⟨v.toNat == 255, false, v.toNat % 16 == 15, s.flags.c⟩
        pc := s.pc + 1 }) ∧
    (WritesOperand s' r (BitVec.ofNat 8 ((v.toNat + 255) % 256)) t →
      exec (.decReg r) s = .next { t with
        flags := ⟨v.toNat == 1, true, v.toNat % 16 == 0, s.flags.c⟩
        pc := s.pc + 1 })) ∧
  FailsWithTheOperandRead (.incReg .atHL) ∧ FailsWithTheOperandRead (.decReg .atHL) ∧
  (∀ (s : State) (v : Byte) (info : Nat) (bus₁ bus₂ : Bus), s.bus.read (s.pair .hl) = .byte v bus₁ →
    (bus₁.write (s.pair .hl) (v + 1) = .fail info bus₂ →
      exec (.incReg .atHL) s = .fault (.busFailure .write (s.pair .hl) (some (v + 1)) info bus₂)) ∧
    (bus₁.write (s.pair .hl) (v - 1) = .fail info bus₂ →
      exec (.decReg .atHL) s = .fault (.busFailure .write (s.pair .hl) (some (v - 1)) info bus₂)))

/-- Rules R142, R143 and R144: INC rr, DEC rr and ADD HL,rr, which never fail (the constructors of `Instr.incWide`,
`Instr.decWide` and `Instr.addHl`). -/
def Obligations.WordArithmetic : Prop :=
  (∀ rr : Reg16, encode (.incWide rr) = [BitVec.ofNat 8 (0x03 + 16 * rr.code)] ∧
    encode (.decWide rr) = [BitVec.ofNat 8 (0x0B + 16 * rr.code)] ∧
    encode (.addHl rr) = [BitVec.ofNat 8 (0x09 + 16 * rr.code)]) ∧
  (∀ (p : WordPair) (s : State),
    let w := (s.pair (wordPair p)).toNat
    let rr : Reg16 := match p with | .bc => .bc | .de => .de | .hl => .hl
    let hl := (s.pair .hl).toNat
    exec (.incWide rr) s = .next ({ s with pc := s.pc + 1 }.setPair (wordPair p) (BitVec.ofNat 16 ((w + 1) % 65536))) ∧
    exec (.decWide rr) s = .next ({ s with pc := s.pc + 1 }.setPair (wordPair p) (BitVec.ofNat 16 ((w + 65535) % 65536))) ∧
    exec (.addHl rr) s = .next ({ s with
      flags := ⟨s.flags.z, false, decide (4095 < hl % 4096 + w % 4096), decide (65535 < hl + w)⟩
      pc := s.pc + 1 }.setPair .hl (BitVec.ofNat 16 ((hl + w) % 65536)))) ∧
  (∀ s : State,
    let hl := (s.pair .hl).toNat
    let w := s.sp.toNat
    exec .inc_SP s = .next { s with sp := BitVec.ofNat 16 ((w + 1) % 65536), pc := s.pc + 1 } ∧
    exec .dec_SP s = .next { s with sp := BitVec.ofNat 16 ((w + 65535) % 65536), pc := s.pc + 1 } ∧
    exec .add_HL_SP s = .next ({ s with
      flags := ⟨s.flags.z, false, decide (4095 < hl % 4096 + w % 4096), decide (65535 < hl + w)⟩
      pc := s.pc + 1 }.setPair .hl (BitVec.ofNat 16 ((hl + w) % 65536))))

/-- Rules R150, R151 and R152: CCF, SCF and CPL, which never fail. -/
def Obligations.CarryAndComplement : Prop :=
  encode .ccf = [0x3F] ∧ encode .scf = [0x37] ∧ encode .cpl = [0x2F] ∧
  ∀ s : State,
    exec .ccf s = .next { s with flags := ⟨s.flags.z, false, false, !s.flags.c⟩, pc := s.pc + 1 } ∧
    exec .scf s = .next { s with flags := ⟨s.flags.z, false, false, true⟩, pc := s.pc + 1 } ∧
    exec .cpl s = .next { s with
      regs := { s.regs with a := BitVec.ofNat 8 (255 - s.regs.a.toNat) }
      flags := ⟨s.flags.z, true, true, s.flags.c⟩
      pc := s.pc + 1 }

/-! ### Results: rotates, shifts and bits (spec/44_rotate_shift.md, 45_bit.md) -/

/-- Rules R160 to R163: RLCA, RRCA, RLA and RRA, which clear Z and never fail. -/
def Obligations.AccumulatorRotates : Prop :=
  ∀ p ∈ ([(.rlca, .rlc, 0x07), (.rrca, .rrc, 0x0F), (.rla, .rl, 0x17), (.rra, .rr, 0x1F)] : List (Instr × RotOp × Byte)),
    encode p.1 = [p.2.2] ∧
    ∀ s : State,
      let x := s.regs.a.toNat
      exec p.1 s = .next { s with
        regs := { s.regs with a := BitVec.ofNat 8 (p.2.1.value x s.flags.c.toNat) }
        flags := ⟨false, false, false, p.2.1.carryLeft x⟩
        pc := s.pc + 1 }

/-- Rules R164 to R171: RLC, RRC, RL, RR, SLA, SRA, SWAP and SRL of a register or `(HL)` (the constructors of
`Instr.rotate`). -/
def Obligations.RotatesAndShifts : Prop :=
  ∀ (op : RotOp) (r : Opd8),
    encode (.rotate op r) = [0xCB, BitVec.ofNat 8 (8 * op.code + r.code)] ∧
    (∀ (s s' t : State) (v : Byte), ReadsOperand s r v s' →
      let res := op.value v.toNat s.flags.c.toNat
      WritesOperand s' r (BitVec.ofNat 8 res) t →
      exec (.rotate op r) s = .next { t with
        flags := ⟨res == 0, false, false, op.carryLeft v.toNat⟩
        pc := s.pc + 2 }) ∧
    FailsWithTheOperandRead (.rotate op .atHL) ∧
    (∀ (s : State) (v : Byte) (info : Nat) (bus₁ bus₂ : Bus), s.bus.read (s.pair .hl) = .byte v bus₁ →
      let res : Byte := BitVec.ofNat 8 (op.value v.toNat s.flags.c.toNat)
      bus₁.write (s.pair .hl) res = .fail info bus₂ →
      exec (.rotate op .atHL) s = .fault (.busFailure .write (s.pair .hl) (some res) info bus₂))

/-- Rule R180: BIT b,r, which writes no operand and gives the same flags when it runs again (the constructors of
`Instr.bitTest`). -/
def Obligations.BitTest : Prop :=
  ∀ (b : Fin 8) (r : Opd8),
    encode (.bitTest b r) = [0xCB, BitVec.ofNat 8 (0x40 + 8 * b.val + r.code)] ∧
    (∀ (s s' : State) (v : Byte), ReadsOperand s r v s' →
      exec (.bitTest b r) s = .next { s' with
        flags := ⟨v.toNat / 2 ^ b.val % 2 == 0, false, true, s.flags.c⟩
        pc := s.pc + 2 }) ∧
    (∀ s t u : State, s.FlatRam → exec (.bitTest b r) s = .next t → exec (.bitTest b r) t = .next u →
      t.flags = u.flags ∧ t.regs = s.regs ∧ t.bus = s.bus) ∧
    FailsWithTheOperandRead (.bitTest b .atHL)

/-- Rules R181 and R182: RES b,r and SET b,r; the `(HL)` forms write whether or not the bit changes (the constructors of
`Instr.bitRes` and `Instr.bitSet`). -/
def Obligations.BitResetAndSet : Prop :=
  ∀ (b : Fin 8) (r : Opd8),
    encode (.bitRes b r) = [0xCB, BitVec.ofNat 8 (0x80 + 8 * b.val + r.code)] ∧
    encode (.bitSet b r) = [0xCB, BitVec.ofNat 8 (0xC0 + 8 * b.val + r.code)] ∧
    (∀ (s s' t : State) (v : Byte), ReadsOperand s r v s' →
      let bit := v.toNat / 2 ^ b.val % 2
      (WritesOperand s' r (BitVec.ofNat 8 (v.toNat - bit * 2 ^ b.val)) t →
        exec (.bitRes b r) s = .next { t with pc := s.pc + 2 }) ∧
      (WritesOperand s' r (BitVec.ofNat 8 (v.toNat + (1 - bit) * 2 ^ b.val)) t →
        exec (.bitSet b r) s = .next { t with pc := s.pc + 2 })) ∧
    FailsWithTheOperandRead (.bitRes b .atHL) ∧ FailsWithTheOperandRead (.bitSet b .atHL) ∧
    (∀ (s : State) (v v' : Byte) (info : Nat) (bus₁ bus₂ : Bus), s.bus.read (s.pair .hl) = .byte v bus₁ →
      bus₁.write (s.pair .hl) v' = .fail info bus₂ →
      ((∀ k < 8, v'.getLsbD k = (v.getLsbD k && decide (k ≠ b.val))) →
        exec (.bitRes b .atHL) s = .fault (.busFailure .write (s.pair .hl) (some v') info bus₂)) ∧
      ((∀ k < 8, v'.getLsbD k = (v.getLsbD k || decide (k = b.val))) →
        exec (.bitSet b .atHL) s = .fault (.busFailure .write (s.pair .hl) (some v') info bus₂)))

/-! ### Results: jumps (spec/46_control.md) -/

/-- Rules R190, R191 and R194: JP a16, JP cc,a16 (`Instr.jumpIf`) and JP HL. -/
def Obligations.AbsoluteJumps : Prop :=
  (∀ w : Word, encode (.jp_a16 w) = [0xC3, lo8 w, hi8 w] ∧ FailsWithItsImmediateRead (.jp_a16 w) ∧
    ∀ s : State, exec (.jp_a16 w) s = .next { s with pc := w }) ∧
  (∀ (cc : Cond) (w : Word), encode (.jumpIf cc w) = [BitVec.ofNat 8 (0xC2 + 8 * cc.code), lo8 w, hi8 w] ∧
    FailsWithItsImmediateRead (.jumpIf cc w) ∧
    ∀ s : State, exec (.jumpIf cc w) s = .next { s with pc := if condHolds s.flags cc then w else s.pc + 3 }) ∧
  encode .jp_HL = [0xE9] ∧
  ∀ s : State, exec .jp_HL s = .next { s with pc := BitVec.ofNat 16 (256 * s.regs.h.toNat + s.regs.l.toNat) }

/-- Rules R192 and R193: JR e8 and JR cc,e8 (`Instr.jumpRelIf`); the displacement is a signed integer. -/
def Obligations.RelativeJumps : Prop :=
  (∀ e : Byte, encode (.jr_e8 e) = [0x18, e] ∧ FailsWithItsImmediateRead (.jr_e8 e) ∧
    ∀ s : State, exec (.jr_e8 e) s = .next { s with pc := BitVec.ofInt 16 (s.pc.toNat + 2 + e.toInt) }) ∧
  (∀ (cc : Cond) (e : Byte), encode (.jumpRelIf cc e) = [BitVec.ofNat 8 (0x20 + 8 * cc.code), e] ∧
    FailsWithItsImmediateRead (.jumpRelIf cc e) ∧
    ∀ s : State, exec (.jumpRelIf cc e) s = .next { s with
      pc := BitVec.ofInt 16 (s.pc.toNat + 2 + if condHolds s.flags cc then e.toInt else 0) })

/-! ### Results: loads (spec/47_loads.md) -/

/-- Rules R200, R203 and R205: LD r,r', LD r,d8 and LD rr,d16 (`Instr.loadReg`, `Instr.loadImm`, `Instr.loadWord`); for
the word the low byte goes to the low register. -/
def Obligations.RegisterAndImmediateLoads : Prop :=
  (∀ r r' : Reg8, encode (.loadReg r r') = [BitVec.ofNat 8 (0x40 + 8 * (Opd8.reg r).code + (Opd8.reg r').code)] ∧
    ∀ s : State, exec (.loadReg r r') s = .next { s with regs := s.regs.set r (s.regs.get r'), pc := s.pc + 1 }) ∧
  (∀ (r : Reg8) (v : Byte), encode (.loadImm r v) = [BitVec.ofNat 8 (0x06 + 8 * (Opd8.reg r).code), v] ∧
    FailsWithItsImmediateRead (.loadImm r v) ∧
    ∀ s : State, exec (.loadImm r v) s = .next { s with regs := s.regs.set r v, pc := s.pc + 2 }) ∧
  (∀ (p : WordPair) (lo hi : Byte),
    let w : Word := BitVec.ofNat 16 (256 * hi.toNat + lo.toNat)
    encode (.loadWord p w) = [BitVec.ofNat 8 (0x01 + 16 * p.code), lo, hi] ∧ FailsWithItsImmediateRead (.loadWord p w) ∧
    ∀ s : State, exec (.loadWord p w) s = .next { s with
      regs := match p with
        | .bc => { s.regs with b := hi, c := lo }
        | .de => { s.regs with d := hi, e := lo }
        | .hl => { s.regs with h := hi, l := lo }
      pc := s.pc + 3 })

/-- Rules R201, R202 and R204: LD r,(HL), LD (HL),r and LD (HL),d8 (`Instr.loadFromHl`, `Instr.storeToHl`, `ld_atHL_d8`),
with HL as it is before the step. -/
def Obligations.LoadsAndStoresThroughHl : Prop :=
  (∀ r : Reg8, encode (.loadFromHl r) = [BitVec.ofNat 8 (0x46 + 8 * (Opd8.reg r).code)] ∧
    encode (.storeToHl r) = [BitVec.ofNat 8 (0x70 + (Opd8.reg r).code)] ∧ FailsWithTheOperandRead (.loadFromHl r)) ∧
  (∀ v : Byte, encode (.ld_atHL_d8 v) = [0x36, v] ∧ FailsWithItsImmediateRead (.ld_atHL_d8 v)) ∧
  ∀ (r : Reg8) (s : State) (bus : Bus) (v : Byte) (info : Nat),
    let a : Word := BitVec.ofNat 16 (256 * s.regs.h.toNat + s.regs.l.toNat)
    (s.bus.read a = .byte v bus →
      exec (.loadFromHl r) s = .next { s with regs := s.regs.set r v, pc := s.pc + 1, bus := bus }) ∧
    (s.bus.write a (s.regs.get r) = .done bus → exec (.storeToHl r) s = .next { s with pc := s.pc + 1, bus := bus }) ∧
    (s.bus.write a (s.regs.get r) = .fail info bus →
      exec (.storeToHl r) s = .fault (.busFailure .write a (some (s.regs.get r)) info bus)) ∧
    (s.bus.write a v = .done bus → exec (.ld_atHL_d8 v) s = .next { s with pc := s.pc + 2, bus := bus }) ∧
    (s.bus.write a v = .fail info bus → exec (.ld_atHL_d8 v) s = .fault (.busFailure .write a (some v) info bus))

/-- Rules R206 to R209 and R214 to R219: the loads and stores of A at (BC), (DE), (a16), (C) and (a8) (the constructors of
`Instr.loadA` and `Instr.storeA`). -/
def Obligations.AccumulatorLoadsAndStores : Prop :=
  (∀ (w : Word) (n : Byte), encode (.loadA .bc) = [0x0A] ∧ encode (.loadA .de) = [0x1A] ∧ encode (.loadA .c) = [0xF2] ∧
    encode (.loadA (.abs w)) = [0xFA, lo8 w, hi8 w] ∧ encode (.loadA (.high n)) = [0xF0, n] ∧
    encode (.storeA .bc) = [0x02] ∧ encode (.storeA .de) = [0x12] ∧ encode (.storeA .c) = [0xE2] ∧
    encode (.storeA (.abs w)) = [0xEA, lo8 w, hi8 w] ∧ encode (.storeA (.high n)) = [0xE0, n]) ∧
  ∀ m : MemOpd, FailsWithItsImmediateRead (.loadA m) ∧ FailsWithItsImmediateRead (.storeA m) ∧
    ∀ (s : State) (bus : Bus) (v : Byte) (info : Nat),
      let a := m.addr s
      let len : Word := BitVec.ofNat 16 (encode (.loadA m)).length
      (s.bus.read a = .byte v bus →
        exec (.loadA m) s = .next { s with regs := { s.regs with a := v }, pc := s.pc + len, bus := bus }) ∧
      (s.bus.read a = .fail info bus → exec (.loadA m) s = .fault (.busFailure .read a none info bus)) ∧
      (s.bus.write a s.regs.a = .done bus → exec (.storeA m) s = .next { s with pc := s.pc + len, bus := bus }) ∧
      (s.bus.write a s.regs.a = .fail info bus →
        exec (.storeA m) s = .fault (.busFailure .write a (some s.regs.a) info bus))

/-- Rules R210 to R213: LD A,(HL+), LD A,(HL-), LD (HL+),A and LD (HL-),A; the access is at the HL before the step (the
constructors of `Instr.loadAStep` and `Instr.storeAStep`). -/
def Obligations.LoadsAndStoresThatStepHl : Prop :=
  encode (.loadAStep .inc) = [0x2A] ∧ encode (.loadAStep .dec) = [0x3A] ∧ encode (.storeAStep .inc) = [0x22] ∧
  encode (.storeAStep .dec) = [0x32] ∧
  ∀ (d : HlStep) (s : State) (bus : Bus) (v : Byte) (info : Nat),
    let hl := 256 * s.regs.h.toNat + s.regs.l.toNat
    let a : Word := BitVec.ofNat 16 hl
    let stepped : Nat := match d with | .inc => (hl + 1) % 65536 | .dec => (hl + 65535) % 65536
    let h : Byte := BitVec.ofNat 8 (stepped / 256)
    let l : Byte := BitVec.ofNat 8 stepped
    (s.bus.read a = .byte v bus → exec (.loadAStep d) s = .next { s with
      regs := { s.regs with a := v, h := h, l := l }, pc := s.pc + 1, bus := bus }) ∧
    (s.bus.read a = .fail info bus → exec (.loadAStep d) s = .fault (.busFailure .read a none info bus)) ∧
    (s.bus.write a s.regs.a = .done bus → exec (.storeAStep d) s = .next { s with
      regs := { s.regs with h := h, l := l }, pc := s.pc + 1, bus := bus }) ∧
    (s.bus.write a s.regs.a = .fail info bus →
      exec (.storeAStep d) s = .fault (.busFailure .write a (some s.regs.a) info bus))

/-! ### Results: tier G (spec/48_gk_ops.md) -/

/-- Rules R242 and R264: NOP and DI only advance PC. -/
def Obligations.NopAndDiOnlyAdvance : Prop :=
  encode .nop = [0x00] ∧ encode .di = [0xF3] ∧
  ∀ s : State, s.params.gkOps = .admitG →
    exec .nop s = .next { s with pc := s.pc + 1 } ∧ exec .di s = .next { s with pc := s.pc + 1 }

/-- Rule R255: DAA. -/
def Obligations.DecimalAdjust : Prop :=
  encode .daa = [0x27] ∧
  ∀ s : State, s.params.gkOps = .admitG →
    let a := s.regs.a.toNat
    let f := s.flags
    let tens : Bool := f.c || (!f.n && decide (153 < a))
    let ones : Bool := f.h || (!f.n && decide (9 < a % 16))
    let adj : Nat := (if tens then 96 else 0) + (if ones then 6 else 0)
    let res : Nat := if f.n then (a + 256 - adj) % 256 else (a + adj) % 256
    exec .daa s = .next { s with
      regs := { s.regs with a := BitVec.ofNat 8 res }, flags := ⟨res == 0, f.n, false, tens⟩, pc := s.pc + 1 }

/-- What rule R255 is for, from the rules of ADD, ADC, SUB, SBC (R244 to R247) and DAA: on decimal operands `m` and `k`
the sum or difference is decimal again, with its decimal carry or borrow in C. -/
def Obligations.DecimalAdjustAfterAddAndSubtract : Prop :=
  ∀ (m k : Nat) (s t u : State), m < 100 → k < 100 → s.params.gkOps = .admitG → s.regs.a = bcdByte m →
    let cin := s.flags.c.toNat
    (exec (.aluImm .add (bcdByte k)) s = .next t → exec .daa t = .next u →
      u.regs.a = bcdByte ((m + k) % 100) ∧ u.flags.c = decide (100 ≤ m + k)) ∧
    (exec (.aluImm .adc (bcdByte k)) s = .next t → exec .daa t = .next u →
      u.regs.a = bcdByte ((m + k + cin) % 100) ∧ u.flags.c = decide (100 ≤ m + k + cin)) ∧
    (exec (.aluImm .sub (bcdByte k)) s = .next t → exec .daa t = .next u →
      u.regs.a = bcdByte ((m + 100 - k) % 100) ∧ u.flags.c = decide (m < k)) ∧
    (exec (.aluImm .sbc (bcdByte k)) s = .next t → exec .daa t = .next u →
      u.regs.a = bcdByte ((m + 100 - k - cin) % 100) ∧ u.flags.c = decide (m < k + cin))

/-- Rules R252 and R253: PUSH and POP; a push whose second write fails has done the first (the constructors of
`Instr.pushPair` and `Instr.popPair`). -/
def Obligations.PushAndPop : Prop :=
  ∀ p : Pair, encode (.pushPair p) = [BitVec.ofNat 8 (0xC5 + 16 * p.code)] ∧
    encode (.popPair p) = [BitVec.ofNat 8 (0xC1 + 16 * p.code)] ∧
    ∀ (s : State) (bus₁ bus₂ : Bus) (info : Nat) (lo hi : Byte), s.params.gkOps = .admitG →
      let w := s.pair p
      (s.bus.write (s.sp - 1) (hi8 w) = .done bus₁ → bus₁.write (s.sp - 2) (lo8 w) = .done bus₂ →
        exec (.pushPair p) s = .next { s with sp := s.sp - 2, pc := s.pc + 1, bus := bus₂ }) ∧
      (s.bus.write (s.sp - 1) (hi8 w) = .fail info bus₁ →
        exec (.pushPair p) s = .fault (.busFailure .write (s.sp - 1) (some (hi8 w)) info bus₁)) ∧
      (s.bus.write (s.sp - 1) (hi8 w) = .done bus₁ → bus₁.write (s.sp - 2) (lo8 w) = .fail info bus₂ →
        exec (.pushPair p) s = .fault (.busFailure .write (s.sp - 2) (some (lo8 w)) info bus₂)) ∧
      (s.bus.read s.sp = .byte lo bus₁ → bus₁.read (s.sp + 1) = .byte hi bus₂ →
        exec (.popPair p) s = .next { s with
          regs := match p with
            | .bc => { s.regs with b := hi, c := lo }
            | .de => { s.regs with d := hi, e := lo }
            | .hl => { s.regs with h := hi, l := lo }
            | .af => { s.regs with a := hi }
          flags := match p with | .af => Flags.decode lo | _ => s.flags
          sp := s.sp + 2, pc := s.pc + 1, bus := bus₂ }) ∧
      (s.bus.read s.sp = .fail info bus₁ → exec (.popPair p) s = .fault (.busFailure .read s.sp none info bus₁)) ∧
      (s.bus.read s.sp = .byte lo bus₁ → bus₁.read (s.sp + 1) = .fail info bus₂ →
        exec (.popPair p) s = .fault (.busFailure .read (s.sp + 1) none info bus₂))

/-- Rules R256, R257 and R258: CALL a16, CALL cc,a16 (`Instr.callIf`) and RST n (`Instr.restart`); the return address is
that of the next instruction. -/
def Obligations.CallsAndRestarts : Prop :=
  (∀ (cc : Cond) (w : Word) (y : Fin 8), encode (.call_a16 w) = [0xCD, lo8 w, hi8 w] ∧
    encode (.callIf cc w) = [BitVec.ofNat 8 (0xC4 + 8 * cc.code), lo8 w, hi8 w] ∧
    encode (.restart y) = [BitVec.ofNat 8 (0xC7 + 8 * y.val)] ∧
    FailsWithItsImmediateRead (.call_a16 w) ∧ FailsWithItsImmediateRead (.callIf cc w)) ∧
  (∀ (i : Instr) (len target : Word), ((i = .call_a16 target ∧ len = 3) ∨ (∃ cc, i = .callIf cc target ∧ len = 3) ∨
      (∃ y : Fin 8, i = .restart y ∧ target = BitVec.ofNat 16 (8 * y.val) ∧ len = 1)) →
    ∀ (s : State) (bus₁ bus₂ : Bus) (info : Nat), s.params.gkOps = .admitG →
      (∀ cc, i = .callIf cc target → condHolds s.flags cc = true) →
      let hi : Byte := BitVec.ofNat 8 ((s.pc + len).toNat / 256)
      let lo : Byte := BitVec.ofNat 8 (s.pc + len).toNat
      (s.bus.write (s.sp - 1) hi = .done bus₁ → bus₁.write (s.sp - 2) lo = .done bus₂ →
        exec i s = .next { s with sp := s.sp - 2, pc := target, bus := bus₂ }) ∧
      (s.bus.write (s.sp - 1) hi = .fail info bus₁ →
        exec i s = .fault (.busFailure .write (s.sp - 1) (some hi) info bus₁)) ∧
      (s.bus.write (s.sp - 1) hi = .done bus₁ → bus₁.write (s.sp - 2) lo = .fail info bus₂ →
        exec i s = .fault (.busFailure .write (s.sp - 2) (some lo) info bus₂))) ∧
  (∀ (cc : Cond) (w : Word) (s : State), s.params.gkOps = .admitG → condHolds s.flags cc = false →
    exec (.callIf cc w) s = .next { s with pc := s.pc + 3 })

/-- Rules R259 and R260: RET and RET cc (`Instr.retIf`). -/
def Obligations.Returns : Prop :=
  encode .ret = [0xC9] ∧ (∀ cc : Cond, encode (.retIf cc) = [BitVec.ofNat 8 (0xC0 + 8 * cc.code)]) ∧
  (∀ (i : Instr) (s : State) (bus₁ bus₂ : Bus) (info : Nat) (lo hi : Byte), s.params.gkOps = .admitG →
    (i = .ret ∨ ∃ cc, i = .retIf cc ∧ condHolds s.flags cc = true) →
      (s.bus.read s.sp = .byte lo bus₁ → bus₁.read (s.sp + 1) = .byte hi bus₂ →
        exec i s = .next { s with pc := BitVec.ofNat 16 (256 * hi.toNat + lo.toNat), sp := s.sp + 2, bus := bus₂ }) ∧
      (s.bus.read s.sp = .fail info bus₁ → exec i s = .fault (.busFailure .read s.sp none info bus₁)) ∧
      (s.bus.read s.sp = .byte lo bus₁ → bus₁.read (s.sp + 1) = .fail info bus₂ →
        exec i s = .fault (.busFailure .read (s.sp + 1) none info bus₂))) ∧
  (∀ (cc : Cond) (s : State), s.params.gkOps = .admitG → condHolds s.flags cc = false →
    exec (.retIf cc) s = .next { s with pc := s.pc + 1 })

/-- Rules R243, R254, R261, R262 and R263: the instructions with SP as an operand. -/
def Obligations.StackPointerOperations : Prop :=
  (∀ (w : Word) (e : Byte), encode (.ld_at_a16_SP w) = [0x08, lo8 w, hi8 w] ∧ encode (.ld_SP_d16 w) = [0x31, lo8 w, hi8 w] ∧
    encode (.add_SP_e8 e) = [0xE8, e] ∧ encode (.ld_HL_SPplus_e8 e) = [0xF8, e] ∧ encode .ld_SP_HL = [0xF9] ∧
    FailsWithItsImmediateRead (.ld_at_a16_SP w) ∧ FailsWithItsImmediateRead (.ld_SP_d16 w) ∧
    FailsWithItsImmediateRead (.add_SP_e8 e) ∧ FailsWithItsImmediateRead (.ld_HL_SPplus_e8 e)) ∧
  ∀ (s : State) (w : Word) (e : Byte) (bus₁ bus₂ : Bus) (info : Nat), s.params.gkOps = .admitG →
    let lo : Byte := BitVec.ofNat 8 s.sp.toNat
    let hi : Byte := BitVec.ofNat 8 (s.sp.toNat / 256)
    let sum : Word := BitVec.ofInt 16 (s.sp.toNat + e.toInt)
    let flags : Flags := ⟨false, false, decide (15 < s.sp.toNat % 16 + e.toNat % 16), decide (255 < s.sp.toNat % 256 + e.toNat)⟩
    (s.bus.write w lo = .done bus₁ → bus₁.write (w + 1) hi = .done bus₂ →
      exec (.ld_at_a16_SP w) s = .next { s with pc := s.pc + 3, bus := bus₂ }) ∧
    (s.bus.write w lo = .fail info bus₁ →
      exec (.ld_at_a16_SP w) s = .fault (.busFailure .write w (some lo) info bus₁)) ∧
    (s.bus.write w lo = .done bus₁ → bus₁.write (w + 1) hi = .fail info bus₂ →
      exec (.ld_at_a16_SP w) s = .fault (.busFailure .write (w + 1) (some hi) info bus₂)) ∧
    exec (.ld_SP_d16 w) s = .next { s with sp := w, pc := s.pc + 3 } ∧
    exec .ld_SP_HL s = .next { s with sp := BitVec.ofNat 16 (256 * s.regs.h.toNat + s.regs.l.toNat), pc := s.pc + 1 } ∧
    exec (.add_SP_e8 e) s = .next { s with sp := sum, flags := flags, pc := s.pc + 2 } ∧
    exec (.ld_HL_SPplus_e8 e) s = .next { s with
      regs := { s.regs with h := BitVec.ofNat 8 (sum.toNat / 256), l := BitVec.ofNat 8 sum.toNat }
      flags := flags, pc := s.pc + 2 }

/-- Rules R252, R253, R256 and R259 together, on the flat RAM: POP of the pair that was pushed restores it, and RET after
CALL goes to the instruction after the call; SP is as before (constructors `call_a16`, `ret`, `Instr.pushPair`,
`Instr.popPair`). -/
def Obligations.StackRoundTrips : Prop :=
  ∀ (s t u : State) (w back : Word) (p q : Pair), s.Inv → s.FlatRam → s.params.gkOps = .admitG →
    (exec (.pushPair p) s = .next t → exec (.popPair q) t = .next u →
      u.sp = s.sp ∧ u.pair q = s.pair p &&& (if q = .af then 0xFFF0 else 0xFFFF) ∧
      (p = q → u.regs = s.regs ∧ u.flags = s.flags)) ∧
    (exec (.call_a16 w) s = .next t → exec .ret { t with pc := back } = .next u →
      u.sp = s.sp ∧ u.pc = s.pc + 3 ∧ u.regs = s.regs ∧ u.flags = s.flags)
end

