-- ==== Sys2Proof/Laws/Memory.lean ====
section
/-! SUPPORT. Laws/Memory.lean: what the memory and bus operations do (spec/20_memory.md): the canonical form is kept, a
read gives what was stored, a store leaves every other address alone. -/

namespace Sys2Proof.Machine

theorem Memory.wfFrom_mono {lo lo' : Nat} (h : lo' ≤ lo) {cells : List Host.Cell} (hw : Memory.wfFrom lo cells = true) :
    Memory.wfFrom lo' cells = true := by
  cases cells with
  | nil => rfl
  | cons c rest =>
    simp only [Memory.wfFrom, Bool.and_eq_true, decide_eq_true_eq] at hw ⊢
    exact ⟨⟨⟨by omega, hw.1.1.2⟩, hw.1.2⟩, hw.2⟩

/-- Below the first listed address nothing is listed. -/
theorem Memory.peek_below {lo : Nat} {cells : List Host.Cell} (hw : Memory.wfFrom lo cells = true) {a : Nat} (h : a < lo) :
    Memory.peek cells a = Config.blankByte := by
  induction cells generalizing lo with
  | nil => rfl
  | cons c rest ih =>
    obtain ⟨k, x⟩ := c
    simp only [Memory.wfFrom, Bool.and_eq_true, decide_eq_true_eq] at hw
    have hk : a ≠ k := by omega
    simp only [Memory.peek, if_neg hk]
    exact ih hw.2 (by omega)

theorem Memory.poke_keeps_wfFrom {lo : Nat} {cells : List Host.Cell} (hw : Memory.wfFrom lo cells = true) {a : Nat}
    (hlo : lo ≤ a) (ha : a < 65536) (v : Byte) : Memory.wfFrom lo (Memory.poke cells a v) = true := by
  induction cells generalizing lo with
  | nil =>
    by_cases hv : v = Config.blankByte
    · simp [Memory.poke, hv, Memory.wfFrom]
    · simp [Memory.poke, hv, Memory.wfFrom, hlo, ha]
  | cons c rest ih =>
    obtain ⟨k, x⟩ := c
    simp only [Memory.wfFrom, Bool.and_eq_true, decide_eq_true_eq] at hw
    obtain ⟨⟨⟨hk, hk'⟩, hx⟩, hr⟩ := hw
    simp only [Memory.poke]
    by_cases h1 : a < k
    · by_cases hv : v = Config.blankByte
      · simp [h1, hv, Memory.wfFrom, hk, hk', hx, hr]
      · simp [h1, hv, Memory.wfFrom, hlo, ha, hk', hx, hr, show a + 1 ≤ k by omega]
    · by_cases h2 : a = k
      · by_cases hv : v = Config.blankByte
        · simp only [h2, hv, if_true, if_false, lt_irrefl]
          exact Memory.wfFrom_mono (by omega) hr
        · subst h2
          simp [hv, Memory.wfFrom, hlo, ha, hr]
      · simp only [h1, h2, if_false, Memory.wfFrom, Bool.and_eq_true, decide_eq_true_eq]
        exact ⟨⟨⟨hk, hk'⟩, hx⟩, ih hr (by omega)⟩

/-- A store at an address of the 64 KiB space keeps the canonical form. -/
theorem Memory.poke_keeps_wf {cells : List Host.Cell} (hw : Memory.wf cells = true) {a : Nat} (ha : a < 65536) (v : Byte) :
    Memory.wf (Memory.poke cells a v) = true :=
  Memory.poke_keeps_wfFrom hw (Nat.zero_le a) ha v

/-- A store leaves every other address alone, in any memory. -/
theorem Memory.peek_poke_ne (cells : List Host.Cell) {a b : Nat} (h : b ≠ a) (v : Byte) :
    Memory.peek (Memory.poke cells a v) b = Memory.peek cells b := by
  induction cells with
  | nil =>
    by_cases hv : v = Config.blankByte
    · simp [Memory.poke, hv]
    · simp [Memory.poke, hv, Memory.peek, h]
  | cons c rest ih =>
    obtain ⟨k, x⟩ := c
    simp only [Memory.poke]
    by_cases h1 : a < k
    · by_cases hv : v = Config.blankByte
      · simp [h1, hv]
      · simp [h1, hv, Memory.peek, h]
    · by_cases h2 : a = k
      · subst h2
        by_cases hv : v = Config.blankByte <;> simp [hv, Memory.peek, h]
      · simp only [h1, h2, if_false, Memory.peek, ih]

theorem Memory.peek_poke_same_from {lo : Nat} {cells : List Host.Cell} (hw : Memory.wfFrom lo cells = true) (a : Nat)
    (v : Byte) : Memory.peek (Memory.poke cells a v) a = v := by
  induction cells generalizing lo with
  | nil =>
    by_cases hv : v = Config.blankByte
    · simp [Memory.poke, hv, Memory.peek]
    · simp [Memory.poke, hv, Memory.peek]
  | cons c rest ih =>
    obtain ⟨k, x⟩ := c
    simp only [Memory.wfFrom, Bool.and_eq_true, decide_eq_true_eq] at hw
    simp only [Memory.poke]
    by_cases h1 : a < k
    · by_cases hv : v = Config.blankByte
      · have hk : a ≠ k := by omega
        simp only [h1, hv, if_true, Memory.peek, if_neg hk]
        exact Memory.peek_below hw.2 (by omega)
      · simp [h1, hv, Memory.peek]
    · by_cases h2 : a = k
      · subst h2
        by_cases hv : v = Config.blankByte
        · simp only [hv, if_true, lt_irrefl, if_false]
          exact Memory.peek_below hw.2 (by omega)
        · simp [hv, Memory.peek]
      · simp only [h1, h2, if_false, Memory.peek]
        exact ih hw.2

/-- In a canonical memory a read gives the byte stored last. -/
theorem Memory.peek_poke_same {cells : List Host.Cell} (hw : Memory.wf cells = true) (a : Nat) (v : Byte) :
    Memory.peek (Memory.poke cells a v) a = v :=
  Memory.peek_poke_same_from hw a v

/-! ### The bus -/

@[simp] theorem Bus.poke_script (bus : Bus) (a : Word) (v : Byte) : (bus.poke a v).script = bus.script := rfl
@[simp] theorem Bus.poke_backing (bus : Bus) (a : Word) (v : Byte) : (bus.poke a v).backing = bus.backing := rfl

theorem Bus.peek_poke_ne (bus : Bus) {a b : Word} (h : b ≠ a) (v : Byte) : (bus.poke a v).peek b = bus.peek b :=
  Memory.peek_poke_ne bus.cells (fun e => h (BitVec.eq_of_toNat_eq e)) v

theorem Bus.peek_poke_same {bus : Bus} (hw : Memory.wf bus.cells = true) (a : Word) (v : Byte) :
    (bus.poke a v).peek a = v :=
  Memory.peek_poke_same hw a.toNat v

theorem Bus.poke_keeps_wf {bus : Bus} (hw : Memory.wf bus.cells = true) (a : Word) (v : Byte) :
    Memory.wf (bus.poke a v).cells = true :=
  Memory.poke_keeps_wf hw a.isLt v

theorem Bus.pokeList_keeps_wf {bus : Bus} (hw : Memory.wf bus.cells = true) (a : Word) (bytes : List Byte) :
    Memory.wf (bus.pokeList a bytes).cells = true := by
  induction bytes generalizing bus a with
  | nil => exact hw
  | cons v rest ih => exact ih (Bus.poke_keeps_wf hw a v) (a + 1)

@[simp] theorem Bus.pokeList_script (bus : Bus) (a : Word) (bytes : List Byte) :
    (bus.pokeList a bytes).script = bus.script := by
  induction bytes generalizing bus a with
  | nil => rfl
  | cons v rest ih => exact ih (bus.poke a v) (a + 1)

@[simp] theorem Bus.pokeList_backing (bus : Bus) (a : Word) (bytes : List Byte) :
    (bus.pokeList a bytes).backing = bus.backing := by
  induction bytes generalizing bus a with
  | nil => rfl
  | cons v rest ih => exact ih (bus.poke a v) (a + 1)

/-- The parameter `Bus` is threaded (rule R49): with no script, an access is one call of its `read` … -/
theorem Bus.read_platform {bus : Bus} {n m : Nat} (hs : bus.script = []) (hb : bus.backing = .platform n) (a : Word) :
    (∀ v, Config.busRead n a = (.ok v, m) → bus.read a = .byte v { bus with backing := .platform m }) ∧
    (∀ info, Config.busRead n a = (.error info, m) → bus.read a = .fail info { bus with backing := .platform m }) := by
  constructor <;> intro x h <;> simp [Bus.read, Bus.readBacking, hs, hb, h]

/-- … or of its `write`. -/
theorem Bus.write_platform {bus : Bus} {n m : Nat} (hs : bus.script = []) (hb : bus.backing = .platform n) (a : Word)
    (v : Byte) :
    (Config.busWrite n a v = (.ok (), m) → bus.write a v = .done { bus with backing := .platform m }) ∧
    (∀ info, Config.busWrite n a v = (.error info, m) →
      bus.write a v = .fail info { bus with backing := .platform m }) := by
  refine ⟨fun h => ?_, fun info h => ?_⟩ <;> simp [Bus.write, Bus.writeBacking, hs, hb, h]

/-- What a served read past the script does. -/
theorem Bus.readBacking_byte {bus bus' : Bus} {a : Word} {v : Byte} (h : bus.readBacking a = .byte v bus') :
    bus'.cells = bus.cells ∧ bus'.script = bus.script := by
  unfold Bus.readBacking at h
  split at h
  · cases h; exact ⟨rfl, rfl⟩
  · split at h <;> cases h
    exact ⟨rfl, rfl⟩

/-- Only the platform's bus fails past the script. -/
theorem Bus.readBacking_fail {bus bus' : Bus} {a : Word} {info : Nat} (h : bus.readBacking a = .fail info bus') :
    bus'.cells = bus.cells ∧ bus'.script = bus.script ∧ bus.backing ≠ .ram := by
  unfold Bus.readBacking at h
  split at h
  · cases h
  · split at h <;> cases h
    exact ⟨rfl, rfl, by simp [*]⟩

/-- What a served write past the script does. -/
theorem Bus.writeBacking_done {bus bus' : Bus} {a : Word} {v : Byte} (h : bus.writeBacking a v = .done bus') :
    (bus'.cells = (bus.poke a v).cells ∨ bus'.cells = bus.cells) ∧ bus'.script = bus.script := by
  unfold Bus.writeBacking at h
  split at h
  · cases h; exact ⟨.inl rfl, rfl⟩
  · split at h <;> cases h
    exact ⟨.inr rfl, rfl⟩

/-- What a failing write past the script leaves. -/
theorem Bus.writeBacking_fail {bus bus' : Bus} {a : Word} {v : Byte} {info : Nat}
    (h : bus.writeBacking a v = .fail info bus') :
    bus'.cells = bus.cells ∧ bus'.script = bus.script ∧ bus.backing ≠ .ram := by
  unfold Bus.writeBacking at h
  split at h
  · cases h
  · split at h <;> cases h
    exact ⟨rfl, rfl, by simp [*]⟩

/-- What a served read does: the RAM is untouched and one script entry, if there is one, is used up. -/
theorem Bus.read_byte {bus bus' : Bus} {a : Word} {v : Byte} (h : bus.read a = .byte v bus') :
    bus'.cells = bus.cells ∧ bus'.script = bus.script.tail := by
  unfold Bus.read at h
  split at h
  · obtain ⟨hc, hs⟩ := Bus.readBacking_byte h
    exact ⟨hc, by simp [*]⟩
  all_goals cases h <;> simp [*]

/-- What a failing read leaves: the RAM untouched, and one script entry used up; the flat RAM does not fail. -/
theorem Bus.read_fail {bus bus' : Bus} {a : Word} {info : Nat} (h : bus.read a = .fail info bus') :
    bus'.cells = bus.cells ∧ bus'.script = bus.script.tail ∧ ¬ bus.FlatRam := by
  unfold Bus.read at h
  split at h
  · obtain ⟨hc, hs, hb⟩ := Bus.readBacking_fail h
    exact ⟨hc, by simp [*], fun hf => hb hf.2⟩
  all_goals cases h <;> simp [*]

/-- What a served write does: the byte is stored or taken elsewhere, and one script entry, if there is one, is used up. -/
theorem Bus.write_done {bus bus' : Bus} {a : Word} {v : Byte} (h : bus.write a v = .done bus') :
    (bus'.cells = (bus.poke a v).cells ∨ bus'.cells = bus.cells) ∧ bus'.script = bus.script.tail := by
  unfold Bus.write at h
  split at h
  · obtain ⟨hc, hs⟩ := Bus.writeBacking_done h
    exact ⟨hc, by simp [*]⟩
  all_goals cases h <;> simp [*, Bus.poke]

/-- What a failing write leaves: the RAM untouched, and one script entry used up; the flat RAM does not fail. -/
theorem Bus.write_fail {bus bus' : Bus} {a : Word} {v : Byte} {info : Nat} (h : bus.write a v = .fail info bus') :
    bus'.cells = bus.cells ∧ bus'.script = bus.script.tail ∧ ¬ bus.FlatRam := by
  unfold Bus.write at h
  split at h
  · obtain ⟨hc, hs, hb⟩ := Bus.writeBacking_fail h
    exact ⟨hc, by simp [*], fun hf => hb hf.2⟩
  all_goals cases h <;> simp [*]

@[simp] theorem Bus.read_flat {bus : Bus} (h : bus.FlatRam) (a : Word) : bus.read a = .byte (bus.peek a) bus := by
  simp [Bus.read, Bus.readBacking, h.1, h.2]

@[simp] theorem Bus.write_flat {bus : Bus} (h : bus.FlatRam) (a : Word) (v : Byte) :
    bus.write a v = .done (bus.poke a v) := by
  simp [Bus.write, Bus.writeBacking, h.1, h.2]

/-- No access puts a platform behind a bus that has none … -/
theorem Bus.read_keeps_ram {bus bus' : Bus} {a : Word} {v : Byte} (h : bus.read a = .byte v bus')
    (hb : bus.backing = .ram) : bus'.backing = .ram := by
  unfold Bus.read Bus.readBacking at h
  rw [hb] at h
  split at h <;> cases h <;> first | exact hb | rfl

/-- … nor does a write. -/
theorem Bus.write_keeps_ram {bus bus' : Bus} {a : Word} {v : Byte} (h : bus.write a v = .done bus')
    (hb : bus.backing = .ram) : bus'.backing = .ram := by
  unfold Bus.write Bus.writeBacking at h
  rw [hb] at h
  split at h <;> cases h <;> first | exact hb | rfl

/-- The flat RAM stays the flat RAM. -/
theorem Bus.read_keeps_flat {bus bus' : Bus} {a : Word} {v : Byte} (h : bus.read a = .byte v bus') (hf : bus.FlatRam) :
    bus'.FlatRam := by
  rw [Bus.read_flat hf] at h; cases h; exact hf

theorem Bus.write_keeps_flat {bus bus' : Bus} {a : Word} {v : Byte} (h : bus.write a v = .done bus')
    (hf : bus.FlatRam) : bus'.FlatRam := by
  rw [Bus.write_flat hf] at h; cases h; exact hf

/-- A served write leaves every other RAM byte alone. -/
theorem Bus.write_peek_ne {bus bus' : Bus} {a b : Word} {v : Byte} (h : bus.write a v = .done bus') (hb : b ≠ a) :
    bus'.peek b = bus.peek b := by
  rcases (Bus.write_done h).1 with hc | hc
  · exact (congrArg (Memory.peek · b.toNat) hc).trans (Bus.peek_poke_ne bus hb v)
  · exact congrArg (Memory.peek · b.toNat) hc

/-- A served write keeps the canonical form. -/
theorem Bus.write_keeps_wf {bus bus' : Bus} {a : Word} {v : Byte} (h : bus.write a v = .done bus')
    (hw : Memory.wf bus.cells = true) : Memory.wf bus'.cells = true := by
  rcases (Bus.write_done h).1 with hc | hc <;> rw [hc]
  · exact Bus.poke_keeps_wf hw a v
  · exact hw

theorem Bus.read_peek {bus bus' : Bus} {a : Word} {v : Byte} (h : bus.read a = .byte v bus') (b : Word) :
    bus'.peek b = bus.peek b :=
  congrArg (Memory.peek · b.toNat) (Bus.read_byte h).1

end Sys2Proof.Machine
end

