-- ==== Sys2Proof/Laws/Bytes.lean ====
section
/-! SUPPORT. Laws/Bytes.lean: the halves of a word (spec/00_scope.md rule R10): `joinBytes`, `hi8` and `lo8` undo each
other, and what each of them is as an integer. -/

namespace Sys2Proof

/-- A joined word, as an integer below 65536. -/
theorem toNat_joinBytes (hi lo : Byte) : (joinBytes hi lo).toNat = 256 * hi.toNat + lo.toNat := by
  rw [joinBytes, BitVec.toNat_append, ← Nat.shiftLeft_add_eq_or_of_lt lo.isLt, Nat.shiftLeft_eq]
  omega

/-- An address written as an integer is the joined word. -/
theorem ofNat_eq_joinBytes (hi lo : Byte) : BitVec.ofNat 16 (256 * hi.toNat + lo.toNat) = joinBytes hi lo := by
  rw [← toNat_joinBytes, BitVec.ofNat_toNat, BitVec.setWidth_eq]

theorem lo8_eq_ofNat (w : Word) : lo8 w = BitVec.ofNat 8 w.toNat := by
  apply BitVec.eq_of_toNat_eq; simp [lo8]

theorem hi8_eq_ofNat (w : Word) : hi8 w = BitVec.ofNat 8 (w.toNat / 256) := by
  apply BitVec.eq_of_toNat_eq; simp [hi8, BitVec.extractLsb'_toNat, Nat.shiftRight_eq_div_pow]

@[simp] theorem lo8_joinBytes (hi lo : Byte) : lo8 (joinBytes hi lo) = lo := by
  apply BitVec.eq_of_toNat_eq
  have := lo.isLt
  rw [lo8_eq_ofNat, toNat_joinBytes, BitVec.toNat_ofNat]; omega

@[simp] theorem hi8_joinBytes (hi lo : Byte) : hi8 (joinBytes hi lo) = hi := by
  apply BitVec.eq_of_toNat_eq
  have := hi.isLt
  have := lo.isLt
  rw [hi8_eq_ofNat, toNat_joinBytes, BitVec.toNat_ofNat]; omega

@[simp] theorem joinBytes_hi8_lo8 (w : Word) : joinBytes (hi8 w) (lo8 w) = w := by
  apply BitVec.eq_of_toNat_eq
  have := w.isLt
  rw [toNat_joinBytes, hi8_eq_ofNat, lo8_eq_ofNat, BitVec.toNat_ofNat, BitVec.toNat_ofNat]; omega

end Sys2Proof
end

