-- ==== Sys2Proof/Laws/State.lean ====
section
/-! SUPPORT. Laws/State.lean: for each update of the state, what every field reads afterwards, so that no later proof
unfolds a record update; and the register and register-pair laws (spec/10_state.md rules R23 to R26). -/

namespace Sys2Proof.Machine

@[simp] theorem State.setReg_regs (s : State) (r : Reg8) (v : Byte) : (s.setReg r v).regs = s.regs.set r v := rfl
@[simp] theorem State.setReg_flags (s : State) (r : Reg8) (v : Byte) : (s.setReg r v).flags = s.flags := rfl
@[simp] theorem State.setReg_pc (s : State) (r : Reg8) (v : Byte) : (s.setReg r v).pc = s.pc := rfl
@[simp] theorem State.setReg_sp (s : State) (r : Reg8) (v : Byte) : (s.setReg r v).sp = s.sp := rfl
@[simp] theorem State.setReg_status (s : State) (r : Reg8) (v : Byte) : (s.setReg r v).status = s.status := rfl
@[simp] theorem State.setReg_bus (s : State) (r : Reg8) (v : Byte) : (s.setReg r v).bus = s.bus := rfl
@[simp] theorem State.setReg_params (s : State) (r : Reg8) (v : Byte) : (s.setReg r v).params = s.params := rfl

@[simp] theorem State.setFlags_regs (s : State) (f : Flags) : (s.setFlags f).regs = s.regs := rfl
@[simp] theorem State.setFlags_flags (s : State) (f : Flags) : (s.setFlags f).flags = f := rfl
@[simp] theorem State.setFlags_pc (s : State) (f : Flags) : (s.setFlags f).pc = s.pc := rfl
@[simp] theorem State.setFlags_sp (s : State) (f : Flags) : (s.setFlags f).sp = s.sp := rfl
@[simp] theorem State.setFlags_status (s : State) (f : Flags) : (s.setFlags f).status = s.status := rfl
@[simp] theorem State.setFlags_bus (s : State) (f : Flags) : (s.setFlags f).bus = s.bus := rfl
@[simp] theorem State.setFlags_params (s : State) (f : Flags) : (s.setFlags f).params = s.params := rfl

@[simp] theorem State.setPc_regs (s : State) (w : Word) : (s.setPc w).regs = s.regs := rfl
@[simp] theorem State.setPc_flags (s : State) (w : Word) : (s.setPc w).flags = s.flags := rfl
@[simp] theorem State.setPc_pc (s : State) (w : Word) : (s.setPc w).pc = w := rfl
@[simp] theorem State.setPc_sp (s : State) (w : Word) : (s.setPc w).sp = s.sp := rfl
@[simp] theorem State.setPc_status (s : State) (w : Word) : (s.setPc w).status = s.status := rfl
@[simp] theorem State.setPc_bus (s : State) (w : Word) : (s.setPc w).bus = s.bus := rfl
@[simp] theorem State.setPc_params (s : State) (w : Word) : (s.setPc w).params = s.params := rfl

@[simp] theorem State.setSp_regs (s : State) (w : Word) : (s.setSp w).regs = s.regs := rfl
@[simp] theorem State.setSp_flags (s : State) (w : Word) : (s.setSp w).flags = s.flags := rfl
@[simp] theorem State.setSp_pc (s : State) (w : Word) : (s.setSp w).pc = s.pc := rfl
@[simp] theorem State.setSp_sp (s : State) (w : Word) : (s.setSp w).sp = w := rfl
@[simp] theorem State.setSp_status (s : State) (w : Word) : (s.setSp w).status = s.status := rfl
@[simp] theorem State.setSp_bus (s : State) (w : Word) : (s.setSp w).bus = s.bus := rfl
@[simp] theorem State.setSp_params (s : State) (w : Word) : (s.setSp w).params = s.params := rfl

@[simp] theorem State.setBus_regs (s : State) (bus : Bus) : (s.setBus bus).regs = s.regs := rfl
@[simp] theorem State.setBus_flags (s : State) (bus : Bus) : (s.setBus bus).flags = s.flags := rfl
@[simp] theorem State.setBus_pc (s : State) (bus : Bus) : (s.setBus bus).pc = s.pc := rfl
@[simp] theorem State.setBus_sp (s : State) (bus : Bus) : (s.setBus bus).sp = s.sp := rfl
@[simp] theorem State.setBus_status (s : State) (bus : Bus) : (s.setBus bus).status = s.status := rfl
@[simp] theorem State.setBus_bus (s : State) (bus : Bus) : (s.setBus bus).bus = bus := rfl
@[simp] theorem State.setBus_params (s : State) (bus : Bus) : (s.setBus bus).params = s.params := rfl

@[simp] theorem State.setPair_pc (s : State) (p : Pair) (w : Word) : (s.setPair p w).pc = s.pc := by cases p <;> rfl
@[simp] theorem State.setPair_sp (s : State) (p : Pair) (w : Word) : (s.setPair p w).sp = s.sp := by cases p <;> rfl
@[simp] theorem State.setPair_status (s : State) (p : Pair) (w : Word) : (s.setPair p w).status = s.status := by cases p <;> rfl
@[simp] theorem State.setPair_bus (s : State) (p : Pair) (w : Word) : (s.setPair p w).bus = s.bus := by cases p <;> rfl
@[simp] theorem State.setPair_params (s : State) (p : Pair) (w : Word) : (s.setPair p w).params = s.params := by cases p <;> rfl

@[simp] theorem State.setWide_pc (s : State) (rr : Reg16) (w : Word) : (s.setWide rr w).pc = s.pc := by cases rr <;> rfl
@[simp] theorem State.setWide_status (s : State) (rr : Reg16) (w : Word) : (s.setWide rr w).status = s.status := by cases rr <;> rfl
@[simp] theorem State.setWide_bus (s : State) (rr : Reg16) (w : Word) : (s.setWide rr w).bus = s.bus := by cases rr <;> rfl
@[simp] theorem State.setWide_params (s : State) (rr : Reg16) (w : Word) : (s.setWide rr w).params = s.params := by cases rr <;> rfl

@[simp] theorem State.setWide_flags (s : State) (rr : Reg16) (w : Word) : (s.setWide rr w).flags = s.flags := by
  cases rr <;> rfl

theorem State.setPair_flags_of_ne (s : State) {p : Pair} (w : Word) (h : p ≠ .af) : (s.setPair p w).flags = s.flags := by
  cases p <;> first | rfl | exact absurd rfl h

@[simp] theorem State.setPair_af_flags (s : State) (w : Word) : (s.setPair .af w).flags = Flags.decode (lo8 w) := rfl

@[simp] theorem Regs.get_set_same (g : Regs) (r : Reg8) (v : Byte) : (g.set r v).get r = v := by cases r <;> rfl

theorem Regs.get_set_ne (g : Regs) {r q : Reg8} (v : Byte) (h : q ≠ r) : (g.set r v).get q = g.get q := by
  cases r <;> cases q <;> first | rfl | exact absurd rfl h

@[simp] theorem State.reg_setReg_same (s : State) (r : Reg8) (v : Byte) : (s.setReg r v).reg r = v :=
  Regs.get_set_same s.regs r v

theorem State.reg_setReg_ne (s : State) {r q : Reg8} (v : Byte) (h : q ≠ r) : (s.setReg r v).reg q = s.reg q :=
  Regs.get_set_ne s.regs v h

@[simp] theorem State.reg_setFlags (s : State) (f : Flags) (r : Reg8) : (s.setFlags f).reg r = s.reg r := rfl

@[simp] theorem State.reg_setPc (s : State) (w : Word) (r : Reg8) : (s.setPc w).reg r = s.reg r := rfl

@[simp] theorem State.reg_setSp (s : State) (w : Word) (r : Reg8) : (s.setSp w).reg r = s.reg r := rfl

@[simp] theorem State.reg_setBus (s : State) (bus : Bus) (r : Reg8) : (s.setBus bus).reg r = s.reg r := rfl

@[simp] theorem State.pair_setPc (s : State) (w : Word) (p : Pair) : (s.setPc w).pair p = s.pair p := by cases p <;> rfl

@[simp] theorem State.pair_setSp (s : State) (w : Word) (p : Pair) : (s.setSp w).pair p = s.pair p := by cases p <;> rfl

@[simp] theorem State.pair_setBus (s : State) (bus : Bus) (p : Pair) : (s.setBus bus).pair p = s.pair p := by
  cases p <;> rfl

@[simp] theorem State.setBus_setBus (s : State) (b₁ b₂ : Bus) : (s.setBus b₁).setBus b₂ = s.setBus b₂ := rfl

@[simp] theorem State.setBus_self (s : State) : s.setBus s.bus = s := rfl

@[simp] theorem State.setSp_setSp (s : State) (v w : Word) : (s.setSp v).setSp w = s.setSp w := rfl

@[simp] theorem State.setSp_setBus (s : State) (w : Word) (bus : Bus) : (s.setBus bus).setSp w = (s.setSp w).setBus bus := rfl

end Sys2Proof.Machine
end

