-- ==== Sys2Proof/Laws/Access.lean ====
section
/-! SUPPORT. Laws/Access.lean: what the shared operations over the bus can do.  For each of them: what it is when the bus
serves the access, and, the other way round, what must have happened where it answers a next state or a fault. -/

namespace Sys2Proof.Machine

variable {s t : State} {a w : Word} {v : Byte} {bus bus₁ bus₂ : Bus} {f : Fault} {info : Nat}

theorem memRead_of_byte {k : Byte → State → Result} (h : s.bus.read a = .byte v bus) :
    memRead s a k = k v (s.setBus bus) := by
  simp [memRead, h]

theorem memRead_of_fail {k : Byte → State → Result} (h : s.bus.read a = .fail info bus) :
    memRead s a k = .fault (.busFailure .read a none info bus) := by
  simp [memRead, h]

theorem memRead_eq_next {k : Byte → State → Result} (h : memRead s a k = .next t) :
    ∃ v bus, s.bus.read a = .byte v bus ∧ k v (s.setBus bus) = .next t := by
  unfold memRead at h
  split at h
  · exact ⟨_, _, ‹_›, h⟩
  · cases h

theorem memRead_eq_fault {k : Byte → State → Result} (h : memRead s a k = .fault f) :
    (∃ v bus, s.bus.read a = .byte v bus ∧ k v (s.setBus bus) = .fault f) ∨
    (∃ info bus, s.bus.read a = .fail info bus ∧ f = .busFailure .read a none info bus) := by
  unfold memRead at h
  split at h
  · exact .inl ⟨_, _, ‹_›, h⟩
  · exact .inr ⟨_, _, ‹_›, by cases h; rfl⟩

theorem memWrite_of_done {k : State → Result} (h : s.bus.write a v = .done bus) : memWrite s a v k = k (s.setBus bus) := by
  simp [memWrite, h]

theorem memWrite_of_fail {k : State → Result} (h : s.bus.write a v = .fail info bus) :
    memWrite s a v k = .fault (.busFailure .write a (some v) info bus) := by
  simp [memWrite, h]

theorem memWrite_eq_next {k : State → Result} (h : memWrite s a v k = .next t) :
    ∃ bus, s.bus.write a v = .done bus ∧ k (s.setBus bus) = .next t := by
  unfold memWrite at h
  split at h
  · exact ⟨_, ‹_›, h⟩
  · cases h

theorem memWrite_eq_fault {k : State → Result} (h : memWrite s a v k = .fault f) :
    (∃ bus, s.bus.write a v = .done bus ∧ k (s.setBus bus) = .fault f) ∨
    (∃ info bus, s.bus.write a v = .fail info bus ∧ f = .busFailure .write a (some v) info bus) := by
  unfold memWrite at h
  split at h
  · exact .inl ⟨_, ‹_›, h⟩
  · exact .inr ⟨_, _, ‹_›, by cases h; rfl⟩

/-- `push16` with its two writes side by side. -/
theorem push16_eq {k : State → Result} : push16 s w k =
    memWrite (s.setSp (s.sp - 1)) (s.sp - 1) (hi8 w) fun s₁ =>
      memWrite (s₁.setSp (s₁.sp - 1)) (s₁.sp - 1) (lo8 w) k := rfl

/-- `pop16` with its two reads side by side. -/
theorem pop16_eq {k : Word → State → Result} : pop16 s k =
    memRead s s.sp fun lo s₁ =>
      memRead (s₁.setSp (s₁.sp + 1)) (s₁.sp + 1) fun hi s₂ => k (joinBytes hi lo) (s₂.setSp (s₂.sp + 1)) := rfl

theorem push16_of_done {k : State → Result} (h₁ : s.bus.write (s.sp - 1) (hi8 w) = .done bus₁)
    (h₂ : bus₁.write (s.sp - 1 - 1) (lo8 w) = .done bus₂) :
    push16 s w k = k ((s.setSp (s.sp - 1 - 1)).setBus bus₂) := by
  rw [push16_eq, memWrite_of_done (s := s.setSp (s.sp - 1)) h₁]
  exact memWrite_of_done (s := (s.setSp (s.sp - 1 - 1)).setBus bus₁) h₂

theorem push16_eq_next {k : State → Result} (h : push16 s w k = .next t) :
    ∃ bus₁ bus₂, s.bus.write (s.sp - 1) (hi8 w) = .done bus₁ ∧ bus₁.write (s.sp - 1 - 1) (lo8 w) = .done bus₂ ∧
      k ((s.setSp (s.sp - 1 - 1)).setBus bus₂) = .next t := by
  rw [push16_eq] at h
  obtain ⟨bus₁, h₁, h⟩ := memWrite_eq_next h
  obtain ⟨bus₂, h₂, h⟩ := memWrite_eq_next h
  exact ⟨bus₁, bus₂, h₁, h₂, h⟩

theorem pop16_of_bytes {k : Word → State → Result} {lo hi : Byte} (h₁ : s.bus.read s.sp = .byte lo bus₁)
    (h₂ : bus₁.read (s.sp + 1) = .byte hi bus₂) :
    pop16 s k = k (joinBytes hi lo) ((s.setSp (s.sp + 1 + 1)).setBus bus₂) := by
  rw [pop16_eq, memRead_of_byte h₁]
  exact memRead_of_byte (s := (s.setSp (s.sp + 1)).setBus bus₁) h₂

theorem pop16_eq_next {k : Word → State → Result} (h : pop16 s k = .next t) :
    ∃ lo hi bus₁ bus₂, s.bus.read s.sp = .byte lo bus₁ ∧ bus₁.read (s.sp + 1) = .byte hi bus₂ ∧
      k (joinBytes hi lo) ((s.setSp (s.sp + 1 + 1)).setBus bus₂) = .next t := by
  rw [pop16_eq] at h
  obtain ⟨lo, bus₁, h₁, h⟩ := memRead_eq_next h
  obtain ⟨hi, bus₂, h₂, h⟩ := memRead_eq_next h
  exact ⟨lo, hi, bus₁, bus₂, h₁, h₂, h⟩

theorem gated_of_admit {b0 : Byte} {m : String} {run : Result} (h : s.params.gkOps = .admitG) : gated b0 m s run = run := by
  simp [gated, h]

theorem gated_of_refuse {b0 : Byte} {m : String} {run : Result} (h : s.params.gkOps = .refuse) :
    gated b0 m s run = .refused (.tierG s.pc [b0] m s.bus) := by
  simp [gated, h]

theorem gated_eq_next {b0 : Byte} {m : String} {run : Result} (h : gated b0 m s run = .next t) :
    s.params.gkOps = .admitG ∧ run = .next t := by
  unfold gated at h
  split at h
  · cases h
  · exact ⟨‹_›, h⟩

theorem gated_eq_fault {b0 : Byte} {m : String} {run : Result} (h : gated b0 m s run = .fault f) :
    s.params.gkOps = .admitG ∧ run = .fault f := by
  unfold gated at h
  split at h
  · cases h
  · exact ⟨‹_›, h⟩

@[simp] theorem advance_eq_next {len : Word} : advance len s = .next t ↔ s.setPc (s.pc + len) = t := by
  simp [advance]

@[simp] theorem advance_ne_fault {len : Word} : advance len s ≠ .fault f := by simp [advance]

theorem read8_reg {k : Byte → State → Result} {r : Reg8} : read8 s (.reg r) k = k (s.reg r) s := rfl

theorem write8_reg {k : State → Result} {r : Reg8} : write8 s (.reg r) v k = k (s.setReg r v) := rfl

/-- What a served operand read is: a value, and at most the bus changed. -/
theorem read8_eq_next {k : Byte → State → Result} {r : Opd8} (h : read8 s r k = .next t) :
    (∃ q, r = .reg q ∧ k (s.reg q) s = .next t) ∨
    (∃ v bus, r = .atHL ∧ s.bus.read (s.pair .hl) = .byte v bus ∧ k v (s.setBus bus) = .next t) := by
  cases r with
  | reg q => exact .inl ⟨q, rfl, h⟩
  | atHL =>
    obtain ⟨v, bus, h₁, h₂⟩ := memRead_eq_next h
    exact .inr ⟨v, bus, rfl, h₁, h₂⟩

theorem write8_eq_next {k : State → Result} {r : Opd8} (h : write8 s r v k = .next t) :
    (∃ q, r = .reg q ∧ k (s.setReg q v) = .next t) ∨
    (∃ bus, r = .atHL ∧ s.bus.write (s.pair .hl) v = .done bus ∧ k (s.setBus bus) = .next t) := by
  cases r with
  | reg q => exact .inl ⟨q, rfl, h⟩
  | atHL =>
    obtain ⟨bus, h₁, h₂⟩ := memWrite_eq_next h
    exact .inr ⟨bus, rfl, h₁, h₂⟩

end Sys2Proof.Machine
end

