-- ==== Sys2Proof/Laws/Fetch.lean ====
section
/-! SUPPORT. Laws/Fetch.lean: what the fetch can do.  `fetch_cases` says it once for every state and every bus: it hands
on a decoded instruction over a bus whose RAM is untouched, or it ends with a failed read. -/

namespace Sys2Proof.Machine

/-- The base map answers the prefix row for the prefix byte only, … -/
theorem decodeBase_ne_prefixCB {b0 : Byte} (hp : b0 ≠ prefixByte) (lo hi second : Byte) :
    decodeBase b0 lo hi ≠ .prefixCB second := by
  suffices h : ∀ n : Fin 256, (.ofFin n : Byte) ≠ prefixByte → decodeBase (.ofFin n) lo hi ≠ .prefixCB second from
    h b0.toFin hp
  intro n hn h
  fin_cases n <;> first | cases h; done | exact hn rfl

/-- … and the extended map never. -/
theorem decodeExtended_ne_prefixCB (b1 second : Byte) : decodeExtended b1 ≠ .prefixCB second := by
  suffices h : ∀ n : Fin 256, decodeExtended (.ofFin n) ≠ .prefixCB second from h b1.toFin
  intro n h
  fin_cases n <;> cases h

/-- Where the instruction is not refused, its operand bytes are fetched (rule R57). -/
theorem operandsFetched_eq {gk : GkOps} {b0 : Byte} (h : byteTier b0 = .g → gk = .admitG) :
    operandsFetched gk b0 = operandCount b0 := by
  unfold operandsFetched
  split
  · cases h ‹_›
  · rfl

/-- A read leaves the RAM alone, and the flat RAM serves it and stays as it is. -/
theorem Bus.read_cases (bus : Bus) (a : Word) :
    (∃ v bus', bus.read a = .byte v bus' ∧ bus'.cells = bus.cells ∧ (bus.FlatRam → bus' = bus)) ∨
    (∃ info bus', bus.read a = .fail info bus' ∧ bus'.cells = bus.cells ∧ ¬ bus.FlatRam) := by
  cases h : bus.read a with
  | byte v bus' =>
    exact .inl ⟨v, bus', rfl, (Bus.read_byte h).1, fun hs => by rw [Bus.read_flat hs] at h; cases h; rfl⟩
  | fail info bus' =>
    exact .inr ⟨info, bus', rfl, (Bus.read_fail h).1, fun hs => by rw [Bus.read_flat hs] at h; cases h⟩

/-- A read at `a` and then `k`: `k` runs over an untouched RAM, or the read failed. -/
theorem memRead_cases (s : State) (a : Word) (k : Byte → State → Result) :
    (∃ v bus, bus.cells = s.bus.cells ∧ (s.FlatRam → bus = s.bus) ∧ memRead s a k = k v (s.setBus bus)) ∨
    (∃ info bus, bus.cells = s.bus.cells ∧ ¬ s.FlatRam ∧ memRead s a k = .fault (.busFailure .read a none info bus)) := by
  rcases Bus.read_cases s.bus a with ⟨v, bus, h, hc, hf⟩ | ⟨info, bus, h, hc, hf⟩
  · exact .inl ⟨v, bus, hc, hf, memRead_of_byte h⟩
  · exact .inr ⟨info, bus, hc, hf, memRead_of_fail h⟩

/-- Everything the fetch can do (rules R55, R57, R100, R304). -/
theorem fetch_cases (s : State) (k : Instr → State → Result) :
    (∃ i bus, (∀ b, i ≠ .prefixCB b) ∧ bus.cells = s.bus.cells ∧ (s.FlatRam → bus = s.bus) ∧
      fetch s k = k i (s.setBus bus)) ∨
    (∃ a info bus, bus.cells = s.bus.cells ∧ ¬ s.FlatRam ∧ fetch s k = .fault (.busFailure .read a none info bus)) := by
  have widen : ∀ (bus : Bus) (x : Result), bus.cells = s.bus.cells → (s.FlatRam → bus = s.bus) →
      ((∃ i bus', (∀ b, i ≠ .prefixCB b) ∧ bus'.cells = bus.cells ∧ (bus.FlatRam → bus' = bus) ∧
        x = k i (s.setBus bus')) ∨
       (∃ a info bus', bus'.cells = bus.cells ∧ ¬ bus.FlatRam ∧ x = .fault (.busFailure .read a none info bus'))) →
      ((∃ i bus, (∀ b, i ≠ .prefixCB b) ∧ bus.cells = s.bus.cells ∧ (s.FlatRam → bus = s.bus) ∧ x = k i (s.setBus bus)) ∨
       (∃ a info bus, bus.cells = s.bus.cells ∧ ¬ s.FlatRam ∧ x = .fault (.busFailure .read a none info bus))) := by
    rintro bus x hc hf (⟨i, bus', hi, hc', hf', e⟩ | ⟨a, info, bus', hc', hf', e⟩)
    · exact .inl ⟨i, bus', hi, hc'.trans hc, fun h => (hf' (by rw [hf h]; exact h)).trans (hf h), e⟩
    · exact .inr ⟨a, info, bus', hc'.trans hc, fun h => hf' (by rw [hf h]; exact h), e⟩
  unfold fetch
  rcases memRead_cases s s.pc _ with ⟨b0, bus, hc, hf, e⟩ | ⟨info, bus, hc, hf, e⟩
  swap
  · exact .inr ⟨_, info, bus, hc, hf, e⟩
  rw [e]
  refine widen bus _ hc hf ?_
  split
  · rcases memRead_cases (s.setBus bus) (s.pc + 1) fun b1 s => k (decodeExtended b1) s with
      ⟨b1, bus', hc', hf', e'⟩ | ⟨info, bus', hc', hf', e'⟩
    · exact .inl ⟨_, bus', decodeExtended_ne_prefixCB b1, hc', hf', e'⟩
    · exact .inr ⟨_, info, bus', hc', hf', e'⟩
  · have hp : b0 ≠ prefixByte := ‹_›
    split
    · exact .inl ⟨_, bus, decodeBase_ne_prefixCB hp 0 0, rfl, fun _ => rfl, rfl⟩
    · rcases memRead_cases (s.setBus bus) (s.pc + 1) fun lo s => k (decodeBase b0 lo 0) s with
        ⟨lo, bus', hc', hf', e'⟩ | ⟨info, bus', hc', hf', e'⟩
      · exact .inl ⟨_, bus', decodeBase_ne_prefixCB hp lo 0, hc', hf', e'⟩
      · exact .inr ⟨_, info, bus', hc', hf', e'⟩
    · rcases memRead_cases (s.setBus bus) (s.pc + 1) fun lo s => memRead s (s.pc + 2) fun hi s => k (decodeBase b0 lo hi) s
        with ⟨lo, bus', hc', hf', e'⟩ | ⟨info, bus', hc', hf', e'⟩
      swap
      · exact .inr ⟨_, info, bus', hc', hf', e'⟩
      rcases memRead_cases (s.setBus bus') (s.pc + 2) fun hi s => k (decodeBase b0 lo hi) s with
        ⟨hi, bus₂, hc₂, hf₂, e₂⟩ | ⟨info, bus₂, hc₂, hf₂, e₂⟩
      · exact .inl ⟨_, bus₂, decodeBase_ne_prefixCB hp lo hi, hc₂.trans hc',
          fun h => (hf₂ (by show bus'.FlatRam; rw [hf' h]; exact h)).trans (hf' h), e'.trans e₂⟩
      · exact .inr ⟨_, info, bus₂, hc₂.trans hc', fun h => hf₂ (by show bus'.FlatRam; rw [hf' h]; exact h),
          e'.trans e₂⟩

end Sys2Proof.Machine
end

