-- ==== Sys2Proof/Laws/Forms.lean ====
section
/-! SUPPORT. Laws/Forms.lean: exec by shape.  `Form.body` is what an instruction of a shape does once it is admitted;
`exec_shape` says that exec is that body, behind the tier-G gate where the instruction is tier G.  A proof about every
instruction goes through it and splits into the shapes, not into the constructors of Instr. -/

namespace Sys2Proof

open Machine

/-- Where HL goes, as the difference the meaning adds (rules R210 to R213). -/
def HlStep.delta : HlStep → Word
  | .inc => 1
  | .dec => -1

/-- The length of a load or store of A by its memory operand (rules R206 to R209, R214 to R219). -/
def MemOpd.len : MemOpd → Word
  | .bc => 1
  | .de => 1
  | .c => 1
  | .abs _ => 3
  | .high _ => 2

/-- What an instruction of a shape does, the tier-G gate open. -/
def Form.body (s : State) : Form → Result
  | .alu op r => aluOperand op r s
  | .aluImm op v => aluApply op v 2 s
  | .inc r => incOperand r s
  | .dec r => decOperand r s
  | .incWide rr => Machine.incWide rr s
  | .decWide rr => Machine.decWide rr s
  | .addHl rr => Machine.addHl rr s
  | .ccf => complementCarry s
  | .scf => setCarry s
  | .cpl => complementA s
  | .rotateA op => Machine.rotateA op s
  | .rotate op r => rotateOperand op r s
  | .bit b r => testBit b r s
  | .res b r => resetBit b r s
  | .set b r => setBit b r s
  | .jump w => jumpTo w s
  | .jumpIf cc w => Machine.jumpIf cc w s
  | .jumpRel e => Machine.jumpRel e s
  | .jumpRelIf cc e => Machine.jumpRelIf cc e s
  | .jumpHl => jumpTo (s.pair .hl) s
  | .load r r' => loadReg r r' s
  | .loadFromHl r => loadFrom r (s.pair .hl) 1 s
  | .storeToHl r => storeTo (s.pair .hl) (s.reg r) 1 s
  | .loadImm r v => Machine.loadImm r v s
  | .storeImm v => storeTo (s.pair .hl) v 2 s
  | .loadWord p w => Machine.loadWord (wordPair p) w s
  | .loadA m => loadFrom .a (m.addr s) m.len s
  | .storeA m => storeTo (m.addr s) (s.reg .a) m.len s
  | .loadAStep d => loadAndStep d.delta s
  | .storeAStep d => storeAndStep d.delta s
  | .nop => advance 1 s
  | .di => advance 1 s
  | .daa => decimalAdjust s
  | .storeSp w => Machine.storeSp w s
  | .loadSp w => Machine.loadSp w 3 s
  | .loadSpHl => Machine.loadSp (s.pair .hl) 1 s
  | .addSp e => addToSp e s
  | .loadHlSp e => loadHlSpPlus e s
  | .push p => pushPair p s
  | .pop p => popPair p s
  | .call w => callTo w (s.pc + 3) s
  | .callIf cc w => Machine.callIf cc w s
  | .restart y => callTo (BitVec.ofNat 16 (8 * y.val)) (s.pc + 1) s
  | .ret => returnFrom s
  | .retIf cc => returnIf cc s
  | .halt => alwaysRefused 0x76 "HALT" s
  | .stop => alwaysRefused 0x10 "STOP" s
  | .ei => alwaysRefused 0xFB "EI" s
  | .reti => alwaysRefused 0xD9 "RETI" s
  | .undefined b => decodeFailure b s
  | .extended second => runExtended second s

/-- exec is the body of the instruction's shape, behind the gate for tier G (rules R4, R240). -/
theorem exec_shape (i : Instr) (s : State) :
    (i.tier ≠ .g ∧ exec i s = i.form.body s) ∨
    (i.tier = .g ∧ ∃ m, exec i s = gated (firstByte i) m s (i.form.body s)) := by
  cases i <;> first | exact .inl ⟨nofun, rfl⟩ | exact .inr ⟨rfl, _, rfl⟩

variable {i : Instr} {s t : State} {f : Fault}

/-- A next state comes from the body. -/
theorem exec_eq_next (h : exec i s = .next t) : i.form.body s = .next t := by
  rcases exec_shape i s with ⟨-, e⟩ | ⟨-, m, e⟩
  · exact e ▸ h
  · exact (gated_eq_next (e ▸ h)).2

/-- A fault comes from the body. -/
theorem exec_eq_fault (h : exec i s = .fault f) : i.form.body s = .fault f := by
  rcases exec_shape i s with ⟨-, e⟩ | ⟨-, m, e⟩
  · exact e ▸ h
  · exact (gated_eq_fault (e ▸ h)).2

/-- An admitted instruction does its body. -/
theorem exec_of_admitted (h : Admitted i s) : exec i s = i.form.body s := by
  rcases exec_shape i s with ⟨-, e⟩ | ⟨hg, m, e⟩
  · exact e
  · rcases h with h | ⟨-, h⟩
    · rw [hg] at h; cases h
    · rw [e, gated_of_admit h]

/-- A tier-G instruction under `GK_OPS = refuse` is refused (rule R240). -/
theorem exec_tierG_refused (h : i.tier = .g) (hr : s.params.gkOps = .refuse) :
    ∃ m, exec i s = .refused (.tierG s.pc [firstByte i] m s.bus) := by
  rcases exec_shape i s with ⟨hn, -⟩ | ⟨-, m, e⟩
  · exact absurd h hn
  · exact ⟨m, e.trans (gated_of_refuse hr)⟩

/-- The prefix row has the shape of the row of its second byte … -/
@[simp] theorem Instr.shape_prefixCB (second : Byte) : (Instr.prefixCB second).shape = (decodeExtended second).form := rfl

/-- … and every other instruction the shape `form` names. -/
theorem Instr.shape_eq_form (h : ∀ second, i ≠ .prefixCB second) : i.shape = i.form := by
  cases i <;> first | rfl | exact absurd rfl (h _)

end Sys2Proof
end

