-- ==== Sys2Proof/Laws/Operands.lean ====
section
/-! SUPPORT. Laws/Operands.lean: what `read8`, `write8`, `push16` and `pop16` do in each case: the operand or the stack
bytes served, and each access failing. -/

namespace Sys2Proof.Machine

variable {s s' : State} {r : Opd8} {v lo hi : Byte} {w : Word} {info : Nat} {bus bus₁ bus₂ : Bus}

/-- An operand that reads as `v` is handed on. -/
theorem read8_of (h : ReadsOperand s r v s') (k : Byte → State → Result) : read8 s r k = k v s' := by
  cases r with
  | reg q => obtain ⟨h₁, h₂⟩ := h; subst h₁ h₂; rfl
  | atHL => obtain ⟨bus, h₁, h₂⟩ := h; subst h₂; exact memRead_of_byte h₁

/-- A served operand write goes on with the state it gives. -/
theorem write8_of (h : WritesOperand s r v s') (k : State → Result) : write8 s r v k = k s' := by
  cases r with
  | reg q => cases h; rfl
  | atHL => obtain ⟨bus, h₁, h₂⟩ := h; subst h₂; exact memWrite_of_done h₁

theorem read8_of_fail {k : Byte → State → Result} (h : s.bus.read (s.pair .hl) = .fail info bus) :
    read8 s .atHL k = .fault (.busFailure .read (s.pair .hl) none info bus) :=
  memRead_of_fail h

theorem write8_of_fail {k : State → Result} (h : s.bus.write (s.pair .hl) v = .fail info bus) :
    write8 s .atHL v k = .fault (.busFailure .write (s.pair .hl) (some v) info bus) :=
  memWrite_of_fail h

/-- Reading an operand changes at most the bus. -/
theorem ReadsOperand.keeps (h : ReadsOperand s r v s') :
    s'.regs = s.regs ∧ s'.flags = s.flags ∧ s'.pc = s.pc ∧ s'.sp = s.sp ∧ s'.params = s.params := by
  cases r with
  | reg q => obtain ⟨-, h₂⟩ := h; subst h₂; exact ⟨rfl, rfl, rfl, rfl, rfl⟩
  | atHL => obtain ⟨bus, -, h₂⟩ := h; subst h₂; exact ⟨rfl, rfl, rfl, rfl, rfl⟩

/-- Writing an operand changes at most that register, or the bus. -/
theorem WritesOperand.keeps (h : WritesOperand s r v s') :
    s'.flags = s.flags ∧ s'.pc = s.pc ∧ s'.sp = s.sp ∧ s'.params = s.params := by
  cases r with
  | reg q => cases h; exact ⟨rfl, rfl, rfl, rfl⟩
  | atHL => obtain ⟨bus, -, h₂⟩ := h; subst h₂; exact ⟨rfl, rfl, rfl, rfl⟩

theorem push16_fails_first {k : State → Result} (h : s.bus.write (s.sp - 1) (hi8 w) = .fail info bus) :
    push16 s w k = .fault (.busFailure .write (s.sp - 1) (some (hi8 w)) info bus) := by
  rw [push16_eq]; exact memWrite_of_fail (s := s.setSp (s.sp - 1)) h

theorem push16_fails_second {k : State → Result} (h₁ : s.bus.write (s.sp - 1) (hi8 w) = .done bus₁)
    (h₂ : bus₁.write (s.sp - 1 - 1) (lo8 w) = .fail info bus₂) :
    push16 s w k = .fault (.busFailure .write (s.sp - 1 - 1) (some (lo8 w)) info bus₂) := by
  rw [push16_eq, memWrite_of_done (s := s.setSp (s.sp - 1)) h₁]
  exact memWrite_of_fail (s := (s.setSp (s.sp - 1 - 1)).setBus bus₁) h₂

theorem pop16_fails_first {k : Word → State → Result} (h : s.bus.read s.sp = .fail info bus) :
    pop16 s k = .fault (.busFailure .read s.sp none info bus) := by
  rw [pop16_eq]; exact memRead_of_fail h

theorem pop16_fails_second {k : Word → State → Result} (h₁ : s.bus.read s.sp = .byte lo bus₁)
    (h₂ : bus₁.read (s.sp + 1) = .fail info bus₂) :
    pop16 s k = .fault (.busFailure .read (s.sp + 1) none info bus₂) := by
  rw [pop16_eq, memRead_of_byte h₁]
  exact memRead_of_fail (s := (s.setSp (s.sp + 1)).setBus bus₁) h₂

end Sys2Proof.Machine
end

