-- ==== Sys2Proof/Laws/Run.lean ====
section
/-! SUPPORT. Laws/Run.lean: what a run can do, and the self-loop on the flat RAM. -/

namespace Sys2Proof.Machine

@[simp] theorem State.requests_zero (s : State) : s.requests 0 = s := rfl
@[simp] theorem State.requests_succ (n : Nat) (s : State) : s.requests (n + 1) = s.request.requests n := rfl

@[simp] theorem State.runFrom_zero (s : State) : s.runFrom 0 = { steps := 0, state := s } := rfl

/-- A run that has ended goes no further, whatever the bound. -/
@[simp] theorem State.runFrom_of_end {s : State} (h : s.atEndOfRun = true) (n : Nat) :
    s.runFrom n = { steps := 0, state := s } := by
  cases n <;> simp [State.runFrom, h]

/-- A run that has not ended does one step. -/
theorem State.runFrom_succ {s : State} (h : s.atEndOfRun = false) (n : Nat) :
    s.runFrom (n + 1) = { steps := (s.request.runFrom n).steps + 1, state := (s.request.runFrom n).state } := by
  simp [State.runFrom, h]

/-- Everything a run can do (rule R336): it is that many step requests, no boundary before its end is an end of run, and
its own end is one, or the host's step bound. -/
theorem State.runFrom_spec (n : Nat) (s : State) :
    (s.runFrom n).state = s.requests (s.runFrom n).steps ∧ (s.runFrom n).steps ≤ n ∧
    (∀ m < (s.runFrom n).steps, (s.requests m).atEndOfRun = false) ∧
    ((s.runFrom n).state.atEndOfRun = true ∨ (s.runFrom n).steps = n) := by
  induction n generalizing s with
  | zero => simp
  | succ n ih =>
    cases h : s.atEndOfRun with
    | true => simp [h]
    | false =>
      obtain ⟨hs, hn, hm, he⟩ := ih s.request
      rw [State.runFrom_succ h]
      refine ⟨hs, Nat.succ_le_succ hn, fun m hlt => ?_, he.imp_right (congrArg (· + 1))⟩
      cases m with
      | zero => exact h
      | succ m => exact hm m (Nat.lt_of_succ_lt_succ hlt)

/-- On the flat RAM the bytes at PC are the bytes in RAM. -/
theorem State.atSelfLoop_flat {s : State} (h : s.bus.FlatRam) :
    s.atSelfLoop = ((s.bus.peek s.pc == 0x18 && s.bus.peek (s.pc + 1) == 0xFE) ||
      (s.bus.peek s.pc == 0xC3 && joinBytes (s.bus.peek (s.pc + 2)) (s.bus.peek (s.pc + 1)) == s.pc)) := by
  simp only [State.atSelfLoop, Bus.read_flat h]
  split
  · simp_all
  · split <;> simp_all

end Sys2Proof.Machine
end

