-- ==== Sys2Proof/Tests/Slice0.lean ====
section
/-! SUPPORT. Tests/Slice0.lean: the vectors of spec/95_test_vectors.md (each test is named after the vector it is), the
decoding of words written out from the spec's encodings, the ill-formed terms, and a witness for each statement that has
hypotheses.  Every expected value is the spec's. -/

namespace Sys2Proof.Tests

open Sys2Proof.Machine

def noRegs : Regs := { a := 0, b := 0, c := 0, d := 0, e := 0, h := 0, l := 0 }

def noFlags : Flags := { z := false, n := false, h := false, c := false }

/-- The start states of spec/95_test_vectors.md: `bytes` in RAM at `pc`, the bytes of `mem`, all else as given. -/
def place (gk : GkOps) (pc sp : Word) (bytes : List Byte) (regs : Regs) (flags : Flags) (mem : List (Word × Byte)) :
    State where
  regs := regs
  flags := flags
  pc := pc
  sp := sp
  status := .running
  bus := mem.foldl (fun bus cell => bus.poke cell.1 cell.2) (Bus.pokeList { cells := [], script := [] } pc bytes)
  params := { entryPc := 0, initSp := 0, gkOps := gk }

/-- The step ends Ok with these registers, flags, PC and SP, and the bus as `writes` leave it. -/
def gives (s : State) (regs : Regs) (flags : Flags) (pc sp : Word) (writes : List (Word × Byte)) : Bool :=
  match step s with
  | .next t =>
    t.regs == regs && t.flags == flags && t.pc == pc && t.sp == sp && t.status == .running && t.params == s.params
      && t.bus == writes.foldl (fun bus cell => bus.poke cell.1 cell.2) s.bus
  | _ => false

/-- The step ends with this fault, and the request changes nothing but the run status. -/
def faults (s : State) (o : StopOutcome) : Bool :=
  match step s with
  | .fault f => f.outcome == o && s.request == { s with status := .stopped o, bus := f.bus }
  | _ => false

/-- The step is refused with this outcome, and the request changes nothing but the run status. -/
def refuses (s : State) (o : StopOutcome) : Bool :=
  match step s with
  | .refused r => r.outcome == o && s.request == { s with status := .stopped o }
  | _ => false

/-! ### The vectors of spec/95_test_vectors.md, section 2 -/

theorem test_V1_add_A_B :
    gives (place .refuse 0x0100 0xFFFE [0x80] { noRegs with a := 0x3A, b := 0xC6 } noFlags [])
      { noRegs with a := 0x00, b := 0xC6 } { noFlags with z := true, h := true, c := true } 0x0101 0xFFFE [] = true := by decide

theorem test_V2_add_A_A :
    gives (place .refuse 0x0100 0xFFFE [0x87] { noRegs with a := 0x80 } noFlags [])
      { noRegs with a := 0x00 } { noFlags with z := true, c := true } 0x0101 0xFFFE [] = true := by decide

theorem test_V3_add_A_atHL :
    gives (place .refuse 0x0100 0xFFFE [0x86] { noRegs with a := 0x01, h := 0xC0, l := 0x00 } noFlags [(0xC000, 0x0F)])
      { noRegs with a := 0x10, h := 0xC0, l := 0x00 } { noFlags with h := true } 0x0101 0xFFFE [] = true := by decide

theorem test_V4_adc_A_B :
    gives (place .refuse 0x0100 0xFFFE [0x88] { noRegs with a := 0x0F, b := 0x00 } { noFlags with c := true } [])
      { noRegs with a := 0x10, b := 0x00 } { noFlags with h := true } 0x0101 0xFFFE [] = true := by decide

theorem test_V5_adc_A_A :
    gives (place .refuse 0x0100 0xFFFE [0x8F] { noRegs with a := 0x80 } { noFlags with c := true } [])
      { noRegs with a := 0x01 } { noFlags with c := true } 0x0101 0xFFFE [] = true := by decide

theorem test_V6_adc_A_C :
    gives (place .refuse 0x0100 0xFFFE [0x89] { noRegs with a := 0xFF, c := 0x00 } { noFlags with c := true } [])
      { noRegs with a := 0x00, c := 0x00 } { noFlags with z := true, h := true, c := true } 0x0101 0xFFFE [] = true := by decide

theorem test_V7_sub_B :
    gives (place .refuse 0x0100 0xFFFE [0x90] { noRegs with a := 0x10, b := 0x01 } noFlags [])
      { noRegs with a := 0x0F, b := 0x01 } { noFlags with n := true, h := true } 0x0101 0xFFFE [] = true := by decide

theorem test_V8_sub_A :
    gives (place .refuse 0x0100 0xFFFE [0x97] { noRegs with a := 0x42 } noFlags [])
      { noRegs with a := 0x00 } { noFlags with z := true, n := true } 0x0101 0xFFFE [] = true := by decide

theorem test_V9_sub_B :
    gives (place .refuse 0x0100 0xFFFE [0x90] { noRegs with a := 0x00, b := 0x01 } noFlags [])
      { noRegs with a := 0xFF, b := 0x01 } { noFlags with n := true, h := true, c := true } 0x0101 0xFFFE [] = true := by decide

theorem test_V10_sbc_A_B :
    gives (place .refuse 0x0100 0xFFFE [0x98] { noRegs with a := 0x00, b := 0x00 } { noFlags with c := true } [])
      { noRegs with a := 0xFF, b := 0x00 } { noFlags with n := true, h := true, c := true } 0x0101 0xFFFE [] = true := by decide

theorem test_V11_sbc_A_B :
    gives (place .refuse 0x0100 0xFFFE [0x98] { noRegs with a := 0x10, b := 0x0F } { noFlags with c := true } [])
      { noRegs with a := 0x00, b := 0x0F } { noFlags with z := true, n := true, h := true } 0x0101 0xFFFE [] = true := by decide

theorem test_V12_and_B :
    gives (place .refuse 0x0100 0xFFFE [0xA0] { noRegs with a := 0xF0, b := 0x0F } noFlags [])
      { noRegs with a := 0x00, b := 0x0F } { noFlags with z := true, h := true } 0x0101 0xFFFE [] = true := by decide

theorem test_V13_and_A :
    gives (place .refuse 0x0100 0xFFFE [0xA7] { noRegs with a := 0x5A } { noFlags with n := true, c := true } [])
      { noRegs with a := 0x5A } { noFlags with h := true } 0x0101 0xFFFE [] = true := by decide

theorem test_V14_xor_A :
    gives (place .refuse 0x0100 0xFFFE [0xAF] { noRegs with a := 0x5A } { noFlags with h := true, c := true } [])
      { noRegs with a := 0x00 } { noFlags with z := true } 0x0101 0xFFFE [] = true := by decide

theorem test_V15_xor_B :
    gives (place .refuse 0x0100 0xFFFE [0xA8] { noRegs with a := 0xF0, b := 0x0F } noFlags [])
      { noRegs with a := 0xFF, b := 0x0F } noFlags 0x0101 0xFFFE [] = true := by decide

theorem test_V16_or_B :
    gives (place .refuse 0x0100 0xFFFE [0xB0] { noRegs with a := 0x00, b := 0x00 } { noFlags with c := true } [])
      { noRegs with a := 0x00, b := 0x00 } { noFlags with z := true } 0x0101 0xFFFE [] = true := by decide

theorem test_V17_or_C :
    gives (place .refuse 0x0100 0xFFFE [0xB1] { noRegs with a := 0x50, c := 0x05 } noFlags [])
      { noRegs with a := 0x55, c := 0x05 } noFlags 0x0101 0xFFFE [] = true := by decide

theorem test_V18_cp_B :
    gives (place .refuse 0x0100 0xFFFE [0xB8] { noRegs with a := 0x3C, b := 0x2F } noFlags [])
      { noRegs with a := 0x3C, b := 0x2F } { noFlags with n := true, h := true } 0x0101 0xFFFE [] = true := by decide

theorem test_V19_cp_B :
    gives (place .refuse 0x0100 0xFFFE [0xB8] { noRegs with a := 0x3C, b := 0x3C } noFlags [])
      { noRegs with a := 0x3C, b := 0x3C } { noFlags with z := true, n := true } 0x0101 0xFFFE [] = true := by decide

theorem test_V20_cp_B :
    gives (place .refuse 0x0100 0xFFFE [0xB8] { noRegs with a := 0x3C, b := 0x40 } noFlags [])
      { noRegs with a := 0x3C, b := 0x40 } { noFlags with n := true, c := true } 0x0101 0xFFFE [] = true := by decide

theorem test_V21_cp_atHL :
    gives (place .refuse 0x0100 0xFFFE [0xBE] { noRegs with a := 0x01, h := 0xC0, l := 0x10 } noFlags [(0xC010, 0x02)])
      { noRegs with a := 0x01, h := 0xC0, l := 0x10 } { noFlags with n := true, h := true, c := true } 0x0101 0xFFFE [] = true := by decide

theorem test_V22_inc_A :
    gives (place .refuse 0x0100 0xFFFE [0x3C] { noRegs with a := 0x0F } noFlags [])
      { noRegs with a := 0x10 } { noFlags with h := true } 0x0101 0xFFFE [] = true := by decide

theorem test_V23_inc_B :
    gives (place .refuse 0x0100 0xFFFE [0x04] { noRegs with b := 0x41 } { noFlags with c := true } [])
      { noRegs with b := 0x42 } { noFlags with c := true } 0x0101 0xFFFE [] = true := by decide

theorem test_V24_dec_C :
    gives (place .refuse 0x0100 0xFFFE [0x0D] { noRegs with c := 0x01 } noFlags [])
      { noRegs with c := 0x00 } { noFlags with z := true, n := true } 0x0101 0xFFFE [] = true := by decide

theorem test_V25_dec_D :
    gives (place .refuse 0x0100 0xFFFE [0x15] { noRegs with d := 0x00 } { noFlags with c := true } [])
      { noRegs with d := 0xFF } { noFlags with n := true, h := true, c := true } 0x0101 0xFFFE [] = true := by decide

theorem test_V26_dec_E :
    gives (place .refuse 0x0100 0xFFFE [0x1D] { noRegs with e := 0x10 } noFlags [])
      { noRegs with e := 0x0F } { noFlags with n := true, h := true } 0x0101 0xFFFE [] = true := by decide

theorem test_V27_inc_atHL :
    gives (place .refuse 0x0100 0xFFFE [0x34] { noRegs with h := 0xC0, l := 0x00 } noFlags [(0xC000, 0xFF)])
      { noRegs with h := 0xC0, l := 0x00 } { noFlags with z := true, h := true } 0x0101 0xFFFE [(0xC000, 0x00)] = true := by decide

theorem test_V28_dec_atHL :
    gives (place .refuse 0x0100 0xFFFE [0x35] { noRegs with h := 0xC0, l := 0x00 } noFlags [(0xC000, 0x00)])
      { noRegs with h := 0xC0, l := 0x00 } { noFlags with n := true, h := true } 0x0101 0xFFFE [(0xC000, 0xFF)] = true := by decide

theorem test_V29_inc_BC :
    gives (place .refuse 0x0100 0xFFFE [0x03] { noRegs with b := 0xFF, c := 0xFF } { noFlags with z := true, h := true } [])
      { noRegs with b := 0x00, c := 0x00 } { noFlags with z := true, h := true } 0x0101 0xFFFE [] = true := by decide

theorem test_V30_dec_BC :
    gives (place .refuse 0x0100 0xFFFE [0x0B] { noRegs with b := 0x00, c := 0x00 } noFlags [])
      { noRegs with b := 0xFF, c := 0xFF } noFlags 0x0101 0xFFFE [] = true := by decide

theorem test_V31_inc_SP :
    gives (place .refuse 0x0100 0xFFFF [0x33] noRegs noFlags [])
      noRegs noFlags 0x0101 0x0000 [] = true := by decide

theorem test_V32_dec_SP :
    gives (place .refuse 0x0100 0x0000 [0x3B] noRegs noFlags [])
      noRegs noFlags 0x0101 0xFFFF [] = true := by decide

theorem test_V33_add_HL_BC :
    gives (place .refuse 0x0100 0xFFFE [0x09] { noRegs with h := 0x08, l := 0x00, b := 0x08, c := 0x00 } noFlags [])
      { noRegs with h := 0x10, l := 0x00, b := 0x08, c := 0x00 } { noFlags with h := true } 0x0101 0xFFFE [] = true := by decide

theorem test_V34_add_HL_BC :
    gives (place .refuse 0x0100 0xFFFE [0x09] { noRegs with h := 0x04, l := 0x00, b := 0x04, c := 0x00 } noFlags [])
      { noRegs with h := 0x08, l := 0x00, b := 0x04, c := 0x00 } noFlags 0x0101 0xFFFE [] = true := by decide

theorem test_V35_add_HL_DE :
    gives (place .refuse 0x0100 0xFFFE [0x19] { noRegs with h := 0xFF, l := 0xFF, d := 0x00, e := 0x01 } { noFlags with z := true, n := true } [])
      { noRegs with h := 0x00, l := 0x00, d := 0x00, e := 0x01 } { noFlags with z := true, h := true, c := true } 0x0101 0xFFFE [] = true := by decide

theorem test_V36_add_HL_HL :
    gives (place .refuse 0x0100 0xFFFE [0x29] { noRegs with h := 0x80, l := 0x00 } noFlags [])
      { noRegs with h := 0x00, l := 0x00 } { noFlags with c := true } 0x0101 0xFFFE [] = true := by decide

theorem test_V37_add_HL_SP :
    gives (place .refuse 0x0100 0x0FFF [0x39] { noRegs with h := 0x00, l := 0x01 } noFlags [])
      { noRegs with h := 0x10, l := 0x00 } { noFlags with h := true } 0x0101 0x0FFF [] = true := by decide

theorem test_V38_ccf :
    gives (place .refuse 0x0100 0xFFFE [0x3F] noRegs { noFlags with z := true, n := true, h := true, c := true } [])
      noRegs { noFlags with z := true } 0x0101 0xFFFE [] = true := by decide

theorem test_V39_ccf :
    gives (place .refuse 0x0100 0xFFFE [0x3F] noRegs noFlags [])
      noRegs { noFlags with c := true } 0x0101 0xFFFE [] = true := by decide

theorem test_V40_scf :
    gives (place .refuse 0x0100 0xFFFE [0x37] noRegs { noFlags with n := true, h := true } [])
      noRegs { noFlags with c := true } 0x0101 0xFFFE [] = true := by decide

theorem test_V41_cpl :
    gives (place .refuse 0x0100 0xFFFE [0x2F] { noRegs with a := 0x35 } { noFlags with z := true, c := true } [])
      { noRegs with a := 0xCA } { noFlags with z := true, n := true, h := true, c := true } 0x0101 0xFFFE [] = true := by decide

theorem test_V42_rlca :
    gives (place .refuse 0x0100 0xFFFE [0x07] { noRegs with a := 0x85 } noFlags [])
      { noRegs with a := 0x0B } { noFlags with c := true } 0x0101 0xFFFE [] = true := by decide

theorem test_V43_rlca :
    gives (place .refuse 0x0100 0xFFFE [0x07] { noRegs with a := 0x00 } { noFlags with z := true } [])
      { noRegs with a := 0x00 } noFlags 0x0101 0xFFFE [] = true := by decide

theorem test_V44_rrca :
    gives (place .refuse 0x0100 0xFFFE [0x0F] { noRegs with a := 0x01 } noFlags [])
      { noRegs with a := 0x80 } { noFlags with c := true } 0x0101 0xFFFE [] = true := by decide

theorem test_V45_rla :
    gives (place .refuse 0x0100 0xFFFE [0x17] { noRegs with a := 0x80 } noFlags [])
      { noRegs with a := 0x00 } { noFlags with c := true } 0x0101 0xFFFE [] = true := by decide

theorem test_V46_rla :
    gives (place .refuse 0x0100 0xFFFE [0x17] { noRegs with a := 0x00 } { noFlags with c := true } [])
      { noRegs with a := 0x01 } noFlags 0x0101 0xFFFE [] = true := by decide

theorem test_V47_rra :
    gives (place .refuse 0x0100 0xFFFE [0x1F] { noRegs with a := 0x01 } noFlags [])
      { noRegs with a := 0x00 } { noFlags with c := true } 0x0101 0xFFFE [] = true := by decide

theorem test_V48_rlc_B :
    gives (place .refuse 0x0100 0xFFFE [0xCB, 0x00] { noRegs with b := 0x00 } { noFlags with c := true } [])
      { noRegs with b := 0x00 } { noFlags with z := true } 0x0102 0xFFFE [] = true := by decide

theorem test_V49_rlc_C :
    gives (place .refuse 0x0100 0xFFFE [0xCB, 0x01] { noRegs with c := 0x80 } noFlags [])
      { noRegs with c := 0x01 } { noFlags with c := true } 0x0102 0xFFFE [] = true := by decide

theorem test_V50_rrc_D :
    gives (place .refuse 0x0100 0xFFFE [0xCB, 0x0A] { noRegs with d := 0x01 } noFlags [])
      { noRegs with d := 0x80 } { noFlags with c := true } 0x0102 0xFFFE [] = true := by decide

theorem test_V51_rl_E :
    gives (place .refuse 0x0100 0xFFFE [0xCB, 0x13] { noRegs with e := 0x80 } noFlags [])
      { noRegs with e := 0x00 } { noFlags with z := true, c := true } 0x0102 0xFFFE [] = true := by decide

theorem test_V52_rr_H :
    gives (place .refuse 0x0100 0xFFFE [0xCB, 0x1C] { noRegs with h := 0x01 } { noFlags with c := true } [])
      { noRegs with h := 0x80 } { noFlags with c := true } 0x0102 0xFFFE [] = true := by decide

theorem test_V53_sla_L :
    gives (place .refuse 0x0100 0xFFFE [0xCB, 0x25] { noRegs with l := 0x80 } noFlags [])
      { noRegs with l := 0x00 } { noFlags with z := true, c := true } 0x0102 0xFFFE [] = true := by decide

theorem test_V54_sra_A :
    gives (place .refuse 0x0100 0xFFFE [0xCB, 0x2F] { noRegs with a := 0x81 } noFlags [])
      { noRegs with a := 0xC0 } { noFlags with c := true } 0x0102 0xFFFE [] = true := by decide

theorem test_V55_swap_A :
    gives (place .refuse 0x0100 0xFFFE [0xCB, 0x37] { noRegs with a := 0x00 } { noFlags with n := true, h := true, c := true } [])
      { noRegs with a := 0x00 } { noFlags with z := true } 0x0102 0xFFFE [] = true := by decide

theorem test_V56_swap_atHL :
    gives (place .refuse 0x0100 0xFFFE [0xCB, 0x36] { noRegs with h := 0xC0, l := 0x00 } noFlags [(0xC000, 0xF1)])
      { noRegs with h := 0xC0, l := 0x00 } noFlags 0x0102 0xFFFE [(0xC000, 0x1F)] = true := by decide

theorem test_V57_srl_A :
    gives (place .refuse 0x0100 0xFFFE [0xCB, 0x3F] { noRegs with a := 0x01 } noFlags [])
      { noRegs with a := 0x00 } { noFlags with z := true, c := true } 0x0102 0xFFFE [] = true := by decide

theorem test_V58_rl_atHL :
    gives (place .refuse 0x0100 0xFFFE [0xCB, 0x16] { noRegs with h := 0xC0, l := 0x00 } noFlags [(0xC000, 0x80)])
      { noRegs with h := 0xC0, l := 0x00 } { noFlags with z := true, c := true } 0x0102 0xFFFE [(0xC000, 0x00)] = true := by decide

theorem test_V59_bit_7_H :
    gives (place .refuse 0x0100 0xFFFE [0xCB, 0x7C] { noRegs with h := 0x80 } { noFlags with c := true } [])
      { noRegs with h := 0x80 } { noFlags with h := true, c := true } 0x0102 0xFFFE [] = true := by decide

theorem test_V60_bit_0_A :
    gives (place .refuse 0x0100 0xFFFE [0xCB, 0x47] { noRegs with a := 0xFE } noFlags [])
      { noRegs with a := 0xFE } { noFlags with z := true, h := true } 0x0102 0xFFFE [] = true := by decide

theorem test_V61_bit_0_atHL :
    gives (place .refuse 0x0100 0xFFFE [0xCB, 0x46] { noRegs with h := 0xC0, l := 0x00 } { noFlags with n := true } [(0xC000, 0x01)])
      { noRegs with h := 0xC0, l := 0x00 } { noFlags with h := true } 0x0102 0xFFFE [] = true := by decide

theorem test_V62_res_7_A :
    gives (place .refuse 0x0100 0xFFFE [0xCB, 0xBF] { noRegs with a := 0xFF } { noFlags with z := true, c := true } [])
      { noRegs with a := 0x7F } { noFlags with z := true, c := true } 0x0102 0xFFFE [] = true := by decide

theorem test_V63_res_0_atHL :
    gives (place .refuse 0x0100 0xFFFE [0xCB, 0x86] { noRegs with h := 0xC0, l := 0x00 } noFlags [(0xC000, 0x0F)])
      { noRegs with h := 0xC0, l := 0x00 } noFlags 0x0102 0xFFFE [(0xC000, 0x0E)] = true := by decide

theorem test_V64_res_0_atHL :
    gives (place .refuse 0x0100 0xFFFE [0xCB, 0x86] { noRegs with h := 0xC0, l := 0x00 } noFlags [(0xC000, 0x0E)])
      { noRegs with h := 0xC0, l := 0x00 } noFlags 0x0102 0xFFFE [(0xC000, 0x0E)] = true := by decide

theorem test_V65_set_0_B :
    gives (place .refuse 0x0100 0xFFFE [0xCB, 0xC0] noRegs noFlags [])
      { noRegs with b := 0x01 } noFlags 0x0102 0xFFFE [] = true := by decide

theorem test_V66_set_7_atHL :
    gives (place .refuse 0x0100 0xFFFE [0xCB, 0xFE] { noRegs with h := 0xC0, l := 0x00 } noFlags [(0xC000, 0x01)])
      { noRegs with h := 0xC0, l := 0x00 } noFlags 0x0102 0xFFFE [(0xC000, 0x81)] = true := by decide

theorem test_V67_jp_a16 :
    gives (place .refuse 0x0100 0xFFFE [0xC3, 0x34, 0x12] noRegs noFlags [])
      noRegs noFlags 0x1234 0xFFFE [] = true := by decide

theorem test_V68_jp_NZ_a16 :
    gives (place .refuse 0x0100 0xFFFE [0xC2, 0x00, 0x20] noRegs noFlags [])
      noRegs noFlags 0x2000 0xFFFE [] = true := by decide

theorem test_V69_jp_NZ_a16 :
    gives (place .refuse 0x0100 0xFFFE [0xC2, 0x00, 0x20] noRegs { noFlags with z := true } [])
      noRegs { noFlags with z := true } 0x0103 0xFFFE [] = true := by decide

theorem test_V70_jp_Z_a16 :
    gives (place .refuse 0x0100 0xFFFE [0xCA, 0x00, 0x20] noRegs { noFlags with z := true } [])
      noRegs { noFlags with z := true } 0x2000 0xFFFE [] = true := by decide

theorem test_V71_jp_NC_a16 :
    gives (place .refuse 0x0100 0xFFFE [0xD2, 0x00, 0x20] noRegs { noFlags with c := true } [])
      noRegs { noFlags with c := true } 0x0103 0xFFFE [] = true := by decide

theorem test_V72_jp_C_a16 :
    gives (place .refuse 0x0100 0xFFFE [0xDA, 0x00, 0x20] noRegs { noFlags with c := true } [])
      noRegs { noFlags with c := true } 0x2000 0xFFFE [] = true := by decide

theorem test_V73_jr_e8 :
    gives (place .refuse 0x0100 0xFFFE [0x18, 0x80] noRegs noFlags [])
      noRegs noFlags 0x0082 0xFFFE [] = true := by decide

theorem test_V74_jr_e8 :
    gives (place .refuse 0x0100 0xFFFE [0x18, 0x7F] noRegs noFlags [])
      noRegs noFlags 0x0181 0xFFFE [] = true := by decide

theorem test_V75_jr_e8 :
    gives (place .refuse 0xFFFE 0xFFFE [0x18, 0x05] noRegs noFlags [])
      noRegs noFlags 0x0005 0xFFFE [] = true := by decide

theorem test_V76_jr_Z_e8 :
    gives (place .refuse 0x0100 0xFFFE [0x28, 0x10] noRegs { noFlags with z := true } [])
      noRegs { noFlags with z := true } 0x0112 0xFFFE [] = true := by decide

theorem test_V77_jr_Z_e8 :
    gives (place .refuse 0x0100 0xFFFE [0x28, 0x10] noRegs noFlags [])
      noRegs noFlags 0x0102 0xFFFE [] = true := by decide

theorem test_V78_jr_NC_e8 :
    gives (place .refuse 0x0100 0xFFFE [0x30, 0xF0] noRegs noFlags [])
      noRegs noFlags 0x00F2 0xFFFE [] = true := by decide

theorem test_V79_jr_C_e8 :
    gives (place .refuse 0x0100 0xFFFE [0x38, 0xF0] noRegs noFlags [])
      noRegs noFlags 0x0102 0xFFFE [] = true := by decide

theorem test_V80_jr_NZ_e8 :
    gives (place .refuse 0x0100 0xFFFE [0x20, 0xFE] noRegs { noFlags with z := true } [])
      noRegs { noFlags with z := true } 0x0102 0xFFFE [] = true := by decide

theorem test_V81_jp_HL :
    gives (place .refuse 0x0100 0xFFFE [0xE9] { noRegs with h := 0xC0, l := 0x12 } noFlags [])
      { noRegs with h := 0xC0, l := 0x12 } noFlags 0xC012 0xFFFE [] = true := by decide

theorem test_V82_ld_B_C :
    gives (place .refuse 0x0100 0xFFFE [0x41] { noRegs with c := 0x99 } noFlags [])
      { noRegs with c := 0x99, b := 0x99 } noFlags 0x0101 0xFFFE [] = true := by decide

theorem test_V83_ld_A_A :
    gives (place .refuse 0x0100 0xFFFE [0x7F] { noRegs with a := 0x12 } { noFlags with z := true } [])
      { noRegs with a := 0x12 } { noFlags with z := true } 0x0101 0xFFFE [] = true := by decide

theorem test_V84_ld_B_atHL :
    gives (place .refuse 0x0100 0xFFFE [0x46] { noRegs with h := 0xC0, l := 0x00 } noFlags [(0xC000, 0xAB)])
      { noRegs with h := 0xC0, l := 0x00, b := 0xAB } noFlags 0x0101 0xFFFE [] = true := by decide

theorem test_V85_ld_H_atHL :
    gives (place .refuse 0x0100 0xFFFE [0x66] { noRegs with h := 0xC0, l := 0x00 } noFlags [(0xC000, 0xAB)])
      { noRegs with h := 0xAB, l := 0x00 } noFlags 0x0101 0xFFFE [] = true := by decide

theorem test_V86_ld_atHL_A :
    gives (place .refuse 0x0100 0xFFFE [0x77] { noRegs with a := 0x3C, h := 0xC0, l := 0x00 } noFlags [])
      { noRegs with a := 0x3C, h := 0xC0, l := 0x00 } noFlags 0x0101 0xFFFE [(0xC000, 0x3C)] = true := by decide

theorem test_V87_ld_atHL_H :
    gives (place .refuse 0x0100 0xFFFE [0x74] { noRegs with h := 0xC0, l := 0x00 } noFlags [])
      { noRegs with h := 0xC0, l := 0x00 } noFlags 0x0101 0xFFFE [(0xC000, 0xC0)] = true := by decide

theorem test_V88_ld_C_d8 :
    gives (place .refuse 0x0100 0xFFFE [0x0E, 0x7E] noRegs noFlags [])
      { noRegs with c := 0x7E } noFlags 0x0102 0xFFFE [] = true := by decide

theorem test_V89_ld_atHL_d8 :
    gives (place .refuse 0x0100 0xFFFE [0x36, 0x55] { noRegs with h := 0xC0, l := 0x01 } noFlags [])
      { noRegs with h := 0xC0, l := 0x01 } noFlags 0x0102 0xFFFE [(0xC001, 0x55)] = true := by decide

theorem test_V90_ld_BC_d16 :
    gives (place .refuse 0x0100 0xFFFE [0x01, 0x34, 0x12] noRegs noFlags [])
      { noRegs with b := 0x12, c := 0x34 } noFlags 0x0103 0xFFFE [] = true := by decide

theorem test_V91_ld_HL_d16 :
    gives (place .refuse 0x0100 0xFFFE [0x21, 0xFF, 0xFF] noRegs noFlags [])
      { noRegs with h := 0xFF, l := 0xFF } noFlags 0x0103 0xFFFE [] = true := by decide

theorem test_V92_ld_A_atBC :
    gives (place .refuse 0x0100 0xFFFE [0x0A] { noRegs with b := 0xC0, c := 0x00 } noFlags [(0xC000, 0x77)])
      { noRegs with b := 0xC0, c := 0x00, a := 0x77 } noFlags 0x0101 0xFFFE [] = true := by decide

theorem test_V93_ld_A_atDE :
    gives (place .refuse 0x0100 0xFFFE [0x1A] { noRegs with d := 0xC0, e := 0x01 } noFlags [(0xC001, 0x88)])
      { noRegs with d := 0xC0, e := 0x01, a := 0x88 } noFlags 0x0101 0xFFFE [] = true := by decide

theorem test_V94_ld_atBC_A :
    gives (place .refuse 0x0100 0xFFFE [0x02] { noRegs with a := 0x11, b := 0xC0, c := 0x02 } noFlags [])
      { noRegs with a := 0x11, b := 0xC0, c := 0x02 } noFlags 0x0101 0xFFFE [(0xC002, 0x11)] = true := by decide

theorem test_V95_ld_atDE_A :
    gives (place .refuse 0x0100 0xFFFE [0x12] { noRegs with a := 0x22, d := 0xC0, e := 0x03 } noFlags [])
      { noRegs with a := 0x22, d := 0xC0, e := 0x03 } noFlags 0x0101 0xFFFE [(0xC003, 0x22)] = true := by decide

theorem test_V96_ld_A_atHLinc :
    gives (place .refuse 0x0100 0xFFFE [0x2A] { noRegs with h := 0xFF, l := 0xFF } noFlags [(0xFFFF, 0x5E)])
      { noRegs with h := 0x00, l := 0x00, a := 0x5E } noFlags 0x0101 0xFFFE [] = true := by decide

theorem test_V97_ld_A_atHLdec :
    gives (place .refuse 0x0100 0xFFFE [0x3A] { noRegs with h := 0xC0, l := 0x00 } noFlags [(0xC000, 0x6F)])
      { noRegs with h := 0xBF, l := 0xFF, a := 0x6F } noFlags 0x0101 0xFFFE [] = true := by decide

theorem test_V98_ld_atHLinc_A :
    gives (place .refuse 0x0100 0xFFFE [0x22] { noRegs with a := 0x01, h := 0xC0, l := 0xFF } noFlags [])
      { noRegs with a := 0x01, h := 0xC1, l := 0x00 } noFlags 0x0101 0xFFFE [(0xC0FF, 0x01)] = true := by decide

theorem test_V99_ld_atHLdec_A :
    gives (place .refuse 0x0100 0xFFFE [0x32] { noRegs with a := 0x02, h := 0x00, l := 0x00 } noFlags [])
      { noRegs with a := 0x02, h := 0xFF, l := 0xFF } noFlags 0x0101 0xFFFE [(0x0000, 0x02)] = true := by decide

theorem test_V100_ld_A_at_a16 :
    gives (place .refuse 0x0100 0xFFFE [0xFA, 0x00, 0xC0] noRegs noFlags [(0xC000, 0x9A)])
      { noRegs with a := 0x9A } noFlags 0x0103 0xFFFE [] = true := by decide

theorem test_V101_ld_at_a16_A :
    gives (place .refuse 0x0100 0xFFFE [0xEA, 0x10, 0xC0] { noRegs with a := 0x9B } noFlags [])
      { noRegs with a := 0x9B } noFlags 0x0103 0xFFFE [(0xC010, 0x9B)] = true := by decide

theorem test_V102_ld_A_atC :
    gives (place .refuse 0x0100 0xFFFE [0xF2] { noRegs with c := 0x44 } noFlags [(0xFF44, 0x90)])
      { noRegs with c := 0x44, a := 0x90 } noFlags 0x0101 0xFFFE [] = true := by decide

theorem test_V103_ld_atC_A :
    gives (place .refuse 0x0100 0xFFFE [0xE2] { noRegs with a := 0x80, c := 0x40 } noFlags [])
      { noRegs with a := 0x80, c := 0x40 } noFlags 0x0101 0xFFFE [(0xFF40, 0x80)] = true := by decide

theorem test_V104_ldh_A_at_a8 :
    gives (place .refuse 0x0100 0xFFFE [0xF0, 0xFF] noRegs noFlags [(0xFFFF, 0x1F)])
      { noRegs with a := 0x1F } noFlags 0x0102 0xFFFE [] = true := by decide

theorem test_V105_ldh_at_a8_A :
    gives (place .refuse 0x0100 0xFFFE [0xE0, 0x00] { noRegs with a := 0x30 } noFlags [])
      { noRegs with a := 0x30 } noFlags 0x0102 0xFFFE [(0xFF00, 0x30)] = true := by decide

theorem test_V106_nop :
    gives (place .admitG 0x0100 0xFFFE [0x00] noRegs noFlags [])
      noRegs noFlags 0x0101 0xFFFE [] = true := by decide

theorem test_V107_ld_at_a16_SP :
    gives (place .admitG 0x0100 0xFFF8 [0x08, 0x00, 0xC0] noRegs noFlags [])
      noRegs noFlags 0x0103 0xFFF8 [(0xC000, 0xF8), (0xC001, 0xFF)] = true := by decide

theorem test_V108_add_A_d8 :
    gives (place .admitG 0x0100 0xFFFE [0xC6, 0x01] { noRegs with a := 0xFF } noFlags [])
      { noRegs with a := 0x00 } { noFlags with z := true, h := true, c := true } 0x0102 0xFFFE [] = true := by decide

theorem test_V109_cp_d8 :
    gives (place .admitG 0x0100 0xFFFE [0xFE, 0x90] { noRegs with a := 0x90 } noFlags [])
      { noRegs with a := 0x90 } { noFlags with z := true, n := true } 0x0102 0xFFFE [] = true := by decide

theorem test_V110_push_BC :
    gives (place .admitG 0x0100 0xFFFE [0xC5] { noRegs with b := 0x12, c := 0x34 } noFlags [])
      { noRegs with b := 0x12, c := 0x34 } noFlags 0x0101 0xFFFC [(0xFFFD, 0x12), (0xFFFC, 0x34)] = true := by decide

theorem test_V111_push_AF :
    gives (place .admitG 0x0100 0xFFFE [0xF5] { noRegs with a := 0x12 } { noFlags with z := true, c := true } [])
      { noRegs with a := 0x12 } { noFlags with z := true, c := true } 0x0101 0xFFFC [(0xFFFD, 0x12), (0xFFFC, 0x90)] = true := by decide

theorem test_V112_pop_AF :
    gives (place .admitG 0x0100 0xC000 [0xF1] noRegs noFlags [(0xC000, 0xFF), (0xC001, 0x12)])
      { noRegs with a := 0x12 } { noFlags with z := true, n := true, h := true, c := true } 0x0101 0xC002 [] = true := by decide

theorem test_V113_pop_BC :
    gives (place .admitG 0x0100 0xFFFF [0xC1] noRegs noFlags [(0xFFFF, 0x34), (0x0000, 0x12)])
      { noRegs with b := 0x12, c := 0x34 } noFlags 0x0101 0x0001 [] = true := by decide

theorem test_V114_ld_SP_d16 :
    gives (place .admitG 0x0100 0xFFFE [0x31, 0x00, 0xD0] noRegs noFlags [])
      noRegs noFlags 0x0103 0xD000 [] = true := by decide

theorem test_V115_daa :
    gives (place .admitG 0x0100 0xFFFE [0x27] { noRegs with a := 0x9A } noFlags [])
      { noRegs with a := 0x00 } { noFlags with z := true, c := true } 0x0101 0xFFFE [] = true := by decide

theorem test_V116_daa :
    gives (place .admitG 0x0100 0xFFFE [0x27] { noRegs with a := 0x15 } { noFlags with h := true } [])
      { noRegs with a := 0x1B } noFlags 0x0101 0xFFFE [] = true := by decide

theorem test_V117_daa :
    gives (place .admitG 0x0100 0xFFFE [0x27] { noRegs with a := 0x0F } { noFlags with n := true, h := true } [])
      { noRegs with a := 0x09 } { noFlags with n := true } 0x0101 0xFFFE [] = true := by decide

theorem test_V118_call_a16 :
    gives (place .admitG 0x0100 0xFFFE [0xCD, 0x00, 0x20] noRegs noFlags [])
      noRegs noFlags 0x2000 0xFFFC [(0xFFFD, 0x01), (0xFFFC, 0x03)] = true := by decide

theorem test_V119_call_NZ_a16 :
    gives (place .admitG 0x0100 0xFFFE [0xC4, 0x00, 0x20] noRegs { noFlags with z := true } [])
      noRegs { noFlags with z := true } 0x0103 0xFFFE [] = true := by decide

theorem test_V120_rst_28 :
    gives (place .admitG 0x0100 0xFFFE [0xEF] noRegs noFlags [])
      noRegs noFlags 0x0028 0xFFFC [(0xFFFD, 0x01), (0xFFFC, 0x01)] = true := by decide

theorem test_V121_ret :
    gives (place .admitG 0x0100 0xC000 [0xC9] noRegs noFlags [(0xC000, 0x34), (0xC001, 0x12)])
      noRegs noFlags 0x1234 0xC002 [] = true := by decide

theorem test_V122_ret_C :
    gives (place .admitG 0x0100 0xC000 [0xD8] noRegs noFlags [(0xC000, 0x34), (0xC001, 0x12)])
      noRegs noFlags 0x0101 0xC000 [] = true := by decide

theorem test_V123_add_SP_e8 :
    gives (place .admitG 0x0100 0x00FF [0xE8, 0x01] noRegs noFlags [])
      noRegs { noFlags with h := true, c := true } 0x0102 0x0100 [] = true := by decide

theorem test_V124_add_SP_e8 :
    gives (place .admitG 0x0100 0x0001 [0xE8, 0xFF] noRegs noFlags [])
      noRegs { noFlags with h := true, c := true } 0x0102 0x0000 [] = true := by decide

theorem test_V125_ld_HL_SPplus_e8 :
    gives (place .admitG 0x0100 0x0080 [0xF8, 0x80] noRegs noFlags [])
      noRegs { noFlags with c := true } 0x0102 0x0080 [] = true := by decide

theorem test_V126_ld_SP_HL :
    gives (place .admitG 0x0100 0xFFFE [0xF9] { noRegs with h := 0xC0, l := 0x10 } noFlags [])
      { noRegs with h := 0xC0, l := 0x10 } noFlags 0x0101 0xC010 [] = true := by decide

theorem test_V127_di :
    gives (place .admitG 0x0100 0xFFFE [0xF3] noRegs noFlags [])
      noRegs noFlags 0x0101 0xFFFE [] = true := by decide

theorem test_V128_nop :
    refuses (place .refuse 0x0100 0xFFFE [0x00] noRegs noFlags [])
      (.refused 0x0100 [0x00] (.tierG "NOP")) = true := by decide

theorem test_V129_add_A_d8 :
    refuses (place .refuse 0x0100 0xFFFE [0xC6, 0x01] { noRegs with a := 0x01 } noFlags [])
      (.refused 0x0100 [0xC6] (.tierG "ADD A,d8")) = true := by decide

theorem test_V130_halt :
    refuses (place .admitG 0x0100 0xFFFE [0x76] noRegs noFlags [])
      (.refused 0x0100 [0x76] (.tierX "HALT")) = true := by decide

theorem test_V131_stop :
    refuses (place .admitG 0x0100 0xFFFE [0x10, 0x00] noRegs noFlags [])
      (.refused 0x0100 [0x10] (.tierX "STOP")) = true := by decide

theorem test_V132_ei :
    refuses (place .admitG 0x0100 0xFFFE [0xFB] noRegs noFlags [])
      (.refused 0x0100 [0xFB] (.tierX "EI")) = true := by decide

theorem test_V133_reti :
    refuses (place .admitG 0x0100 0xFFFE [0xD9] noRegs noFlags [])
      (.refused 0x0100 [0xD9] (.tierX "RETI")) = true := by decide

theorem test_V134_undefined_D3 :
    faults (place .admitG 0x0100 0xFFFE [0xD3] noRegs noFlags [])
      (.decodeFailure 0x0100 0xD3) = true := by decide

theorem test_V135_undefined_FD :
    faults (place .admitG 0x0100 0xFFFE [0xFD] { noRegs with a := 0x12 } noFlags [])
      (.decodeFailure 0x0100 0xFD) = true := by decide

/-! ### Bus accesses in order and bus failures (section 3).  A script entry answers one access; what is left of the script
shows how many accesses the step issued. -/

/-- The same state with the answers of the next bus accesses scripted. -/
def scripted (s : State) (script : List BusAnswer) : State := s.setBus { s.bus with script := script }

/-- The step ends with this fault after the accesses that leave `rest` of the script, nothing written but `writes`. -/
def faultsWith (s : State) (o : StopOutcome) (rest : List BusAnswer) (writes : List (Word × Byte)) : Bool :=
  faults s o && s.request.bus == { writes.foldl (fun bus cell => bus.poke cell.1 cell.2) s.bus with script := rest }

/-- A1: the write of INC (HL) is the third access and stores what the second read gave, plus one. -/
theorem test_A1_inc_atHL :
    (match step (scripted (place .refuse 0x0100 0xFFFE [0x34] { noRegs with h := 0xC0 } noFlags [])
        [.ram, .device 0x7F, .ram, .ram]) with
      | .next t => t.bus.peek 0xC000 == 0x80 && t.bus.script == [.ram]
      | _ => false) = true := by decide

/-- A2: SET 0,(HL) writes although the value is unchanged. -/
theorem test_A2_set_0_atHL :
    faultsWith (scripted (place .refuse 0x0100 0xFFFE [0xCB, 0xC6] { noRegs with h := 0xC0 } noFlags [(0xC000, 0x01)])
      [.ram, .ram, .ram, .fail 3]) (.busFailure .write 0xC000 (some 0x01) 3) [] [] = true := by decide

/-- A5: JP Z,a16 not taken reads its operand. -/
theorem test_A5_jp_Z_a16 :
    (match step (scripted (place .refuse 0x0100 0xFFFE [0xCA, 0x00, 0x20] noRegs noFlags []) [.ram, .ram, .ram, .ram]) with
      | .next t => t.pc == 0x0103 && t.bus.script == [.ram]
      | _ => false) = true := by decide

/-- A6: CALL writes the high byte of the return address first; the fifth access writes the low byte. -/
theorem test_A6_call_a16 :
    faultsWith (scripted (place .admitG 0x0100 0xFFFE [0xCD, 0x00, 0x20] noRegs noFlags [])
      [.ram, .ram, .ram, .ram, .fail 1]) (.busFailure .write 0xFFFC (some 0x03) 1) [] [(0xFFFD, 0x01)] = true := by decide

/-- A7: RET reads the low byte first. -/
theorem test_A7_ret :
    (match step (scripted (place .admitG 0x0100 0xC000 [0xC9] noRegs noFlags []) [.ram, .device 0x34, .device 0x12]) with
      | .next t => t.pc == 0x1234 && t.sp == 0xC002 && t.bus.script == []
      | _ => false) = true := by decide

/-- A8, A9, A10: an undefined byte, HALT, and NOP under GK_OPS = refuse issue the opcode fetch and nothing else. -/
theorem test_A8_A9_A10_one_access :
    (scripted (place .admitG 0x0100 0xFFFE [0xD3] noRegs noFlags []) [.ram, .ram]).request.bus.script = [.ram] ∧
    (scripted (place .admitG 0x0100 0xFFFE [0x76] noRegs noFlags []) [.ram, .ram]).request.bus.script = [.ram] ∧
    (scripted (place .refuse 0x0100 0xFFFE [0x00] noRegs noFlags []) [.ram, .ram]).request.bus.script = [.ram] := by
  decide

theorem test_B1_inc_atHL :
    faultsWith (scripted (place .refuse 0x0100 0xFFFE [0x34] noRegs noFlags []) [.fail 7, .ram])
      (.busFailure .read 0x0100 none 7) [.ram] [] = true := by decide

theorem test_B2_swap_A :
    faultsWith (scripted (place .refuse 0x0100 0xFFFE [0xCB, 0x37] { noRegs with a := 0xA5 } noFlags []) [.ram, .fail 7, .ram])
      (.busFailure .read 0x0101 none 7) [.ram] [] = true := by decide

theorem test_B3_ld_A_at_a16 :
    faultsWith (scripted (place .refuse 0x0100 0xFFFE [0xFA, 0x00, 0xC0] noRegs noFlags []) [.ram, .ram, .fail 7, .ram])
      (.busFailure .read 0x0102 none 7) [.ram] [] = true := by decide

theorem test_B4_inc_atHL :
    faultsWith (scripted (place .refuse 0x0100 0xFFFE [0x34] { noRegs with h := 0xC0 } noFlags [(0xC000, 0x7F)])
      [.ram, .ram, .fail 7, .ram]) (.busFailure .write 0xC000 (some 0x80) 7) [.ram] [] = true := by decide

theorem test_B5_ld_A_atHLinc :
    faultsWith (scripted (place .refuse 0x0100 0xFFFE [0x2A] { noRegs with h := 0xC0 } noFlags []) [.ram, .fail 7])
      (.busFailure .read 0xC000 none 7) [] [] = true := by decide

theorem test_B6_push_BC :
    faultsWith (scripted (place .admitG 0x0100 0xFFFE [0xC5] { noRegs with b := 0x12, c := 0x34 } noFlags [])
      [.ram, .ram, .fail 7]) (.busFailure .write 0xFFFC (some 0x34) 7) [] [(0xFFFD, 0x12)] = true := by decide

theorem test_B7_undefined_D3 :
    faultsWith (scripted (place .refuse 0x0100 0xFFFE [0xD3] noRegs noFlags []) [.ram, .fail 7])
      (.decodeFailure 0x0100 0xD3) [.fail 7] [] = true := by decide

/-- Section 3.3: after a stop a further step request does nothing, and reset clears the registers and keeps memory. -/
theorem test_after_a_stop :
    (let s := place .admitG 0x0100 0xFFFE [0xD3] { noRegs with a := 0x12 } noFlags []
     s.request.request == s.request && s.request.status == .stopped (.decodeFailure 0x0100 0xD3)
       && s.request.applyReset.status == .running && s.request.applyReset.regs == noRegs
       && s.request.applyReset.bus == s.bus) = true := by decide

/-! ### Codec and pairs (section 4) -/

theorem test_flags_codec :
    Flags.decode 0x0F = noFlags ∧ Flags.decode 0xFF = ⟨true, true, true, true⟩ ∧
    Flags.decode 0x9A = ⟨true, false, false, true⟩ ∧ (Flags.decode 0x5C).encode = 0x50 ∧
    Flags.encode ⟨true, false, false, false⟩ = 0x80 ∧ Flags.encode ⟨false, true, false, false⟩ = 0x40 ∧
    Flags.encode ⟨false, false, true, false⟩ = 0x20 ∧ Flags.encode ⟨false, false, false, true⟩ = 0x10 := by decide

theorem test_pair_writes :
    (State.reset.setPair .bc 0x1234).regs = { noRegs with b := 0x12, c := 0x34 } ∧
    (State.reset.setPair .de 0xFF00).regs = { noRegs with d := 0xFF } ∧
    ((State.reset.setPair .hl 0xFFFF).setReg .l 0x00).pair .hl = 0xFF00 ∧
    (State.reset.setPair .af 0x12FF).flags = ⟨true, true, true, true⟩ ∧
    (State.reset.setPair .af 0x12FF).pair .af = 0x12F0 := by decide

/-! ### Decoding: the maps of rules R77 and R78, row by row.  Operand bytes are 0x34, 0x12. -/

def decodesTo : List Byte → List Instr → Bool
  | [], [] => true
  | b :: bs, i :: is =>
    (match decode [b, 0x34, 0x12] with
      | .instr j _ => j == i
      | .truncated => false) && decodesTo bs is
  | _, _ => false

def extendedDecodesTo : Byte → List Instr → Bool
  | _, [] => true
  | b, i :: is =>
    (match decode [0xCB, b] with
      | .instr j rest => j == i && rest.isEmpty
      | .truncated => false) && extendedDecodesTo (b + 1) is

theorem test_decode_base_0x :
    decodesTo [0x00, 0x01, 0x02, 0x03, 0x04, 0x05, 0x06, 0x07, 0x08, 0x09, 0x0A, 0x0B, 0x0C, 0x0D, 0x0E, 0x0F]
      [.nop, .ld_BC_d16 0x1234, .ld_atBC_A, .inc_BC, .inc_B, .dec_B, .ld_B_d8 0x34, .rlca,
       .ld_at_a16_SP 0x1234, .add_HL_BC, .ld_A_atBC, .dec_BC, .inc_C, .dec_C, .ld_C_d8 0x34, .rrca] = true := by decide

theorem test_decode_base_1x :
    decodesTo [0x10, 0x11, 0x12, 0x13, 0x14, 0x15, 0x16, 0x17, 0x18, 0x19, 0x1A, 0x1B, 0x1C, 0x1D, 0x1E, 0x1F]
      [.stop, .ld_DE_d16 0x1234, .ld_atDE_A, .inc_DE, .inc_D, .dec_D, .ld_D_d8 0x34, .rla, .jr_e8 0x34,
       .add_HL_DE, .ld_A_atDE, .dec_DE, .inc_E, .dec_E, .ld_E_d8 0x34, .rra] = true := by decide

theorem test_decode_base_2x :
    decodesTo [0x20, 0x21, 0x22, 0x23, 0x24, 0x25, 0x26, 0x27, 0x28, 0x29, 0x2A, 0x2B, 0x2C, 0x2D, 0x2E, 0x2F]
      [.jr_NZ_e8 0x34, .ld_HL_d16 0x1234, .ld_atHLinc_A, .inc_HL, .inc_H, .dec_H, .ld_H_d8 0x34, .daa,
       .jr_Z_e8 0x34, .add_HL_HL, .ld_A_atHLinc, .dec_HL, .inc_L, .dec_L, .ld_L_d8 0x34, .cpl] = true := by decide

theorem test_decode_base_3x :
    decodesTo [0x30, 0x31, 0x32, 0x33, 0x34, 0x35, 0x36, 0x37, 0x38, 0x39, 0x3A, 0x3B, 0x3C, 0x3D, 0x3E, 0x3F]
      [.jr_NC_e8 0x34, .ld_SP_d16 0x1234, .ld_atHLdec_A, .inc_SP, .inc_atHL, .dec_atHL, .ld_atHL_d8 0x34, .scf,
       .jr_C_e8 0x34, .add_HL_SP, .ld_A_atHLdec, .dec_SP, .inc_A, .dec_A, .ld_A_d8 0x34, .ccf] = true := by decide

theorem test_decode_base_4x :
    decodesTo [0x40, 0x41, 0x42, 0x43, 0x44, 0x45, 0x46, 0x47, 0x48, 0x49, 0x4A, 0x4B, 0x4C, 0x4D, 0x4E, 0x4F]
      [.ld_B_B, .ld_B_C, .ld_B_D, .ld_B_E, .ld_B_H, .ld_B_L, .ld_B_atHL, .ld_B_A, .ld_C_B, .ld_C_C, .ld_C_D,
       .ld_C_E, .ld_C_H, .ld_C_L, .ld_C_atHL, .ld_C_A] = true := by decide

theorem test_decode_base_5x :
    decodesTo [0x50, 0x51, 0x52, 0x53, 0x54, 0x55, 0x56, 0x57, 0x58, 0x59, 0x5A, 0x5B, 0x5C, 0x5D, 0x5E, 0x5F]
      [.ld_D_B, .ld_D_C, .ld_D_D, .ld_D_E, .ld_D_H, .ld_D_L, .ld_D_atHL, .ld_D_A, .ld_E_B, .ld_E_C, .ld_E_D,
       .ld_E_E, .ld_E_H, .ld_E_L, .ld_E_atHL, .ld_E_A] = true := by decide

theorem test_decode_base_6x :
    decodesTo [0x60, 0x61, 0x62, 0x63, 0x64, 0x65, 0x66, 0x67, 0x68, 0x69, 0x6A, 0x6B, 0x6C, 0x6D, 0x6E, 0x6F]
      [.ld_H_B, .ld_H_C, .ld_H_D, .ld_H_E, .ld_H_H, .ld_H_L, .ld_H_atHL, .ld_H_A, .ld_L_B, .ld_L_C, .ld_L_D,
       .ld_L_E, .ld_L_H, .ld_L_L, .ld_L_atHL, .ld_L_A] = true := by decide

theorem test_decode_base_7x :
    decodesTo [0x70, 0x71, 0x72, 0x73, 0x74, 0x75, 0x76, 0x77, 0x78, 0x79, 0x7A, 0x7B, 0x7C, 0x7D, 0x7E, 0x7F]
      [.ld_atHL_B, .ld_atHL_C, .ld_atHL_D, .ld_atHL_E, .ld_atHL_H, .ld_atHL_L, .halt, .ld_atHL_A, .ld_A_B,
       .ld_A_C, .ld_A_D, .ld_A_E, .ld_A_H, .ld_A_L, .ld_A_atHL, .ld_A_A] = true := by decide

theorem test_decode_base_8x :
    decodesTo [0x80, 0x81, 0x82, 0x83, 0x84, 0x85, 0x86, 0x87, 0x88, 0x89, 0x8A, 0x8B, 0x8C, 0x8D, 0x8E, 0x8F]
      [.add_A_B, .add_A_C, .add_A_D, .add_A_E, .add_A_H, .add_A_L, .add_A_atHL, .add_A_A, .adc_A_B, .adc_A_C,
       .adc_A_D, .adc_A_E, .adc_A_H, .adc_A_L, .adc_A_atHL, .adc_A_A] = true := by decide

theorem test_decode_base_9x :
    decodesTo [0x90, 0x91, 0x92, 0x93, 0x94, 0x95, 0x96, 0x97, 0x98, 0x99, 0x9A, 0x9B, 0x9C, 0x9D, 0x9E, 0x9F]
      [.sub_B, .sub_C, .sub_D, .sub_E, .sub_H, .sub_L, .sub_atHL, .sub_A, .sbc_A_B, .sbc_A_C, .sbc_A_D,
       .sbc_A_E, .sbc_A_H, .sbc_A_L, .sbc_A_atHL, .sbc_A_A] = true := by decide

theorem test_decode_base_Ax :
    decodesTo [0xA0, 0xA1, 0xA2, 0xA3, 0xA4, 0xA5, 0xA6, 0xA7, 0xA8, 0xA9, 0xAA, 0xAB, 0xAC, 0xAD, 0xAE, 0xAF]
      [.and_B, .and_C, .and_D, .and_E, .and_H, .and_L, .and_atHL, .and_A, .xor_B, .xor_C, .xor_D, .xor_E,
       .xor_H, .xor_L, .xor_atHL, .xor_A] = true := by decide

theorem test_decode_base_Bx :
    decodesTo [0xB0, 0xB1, 0xB2, 0xB3, 0xB4, 0xB5, 0xB6, 0xB7, 0xB8, 0xB9, 0xBA, 0xBB, 0xBC, 0xBD, 0xBE, 0xBF]
      [.or_B, .or_C, .or_D, .or_E, .or_H, .or_L, .or_atHL, .or_A, .cp_B, .cp_C, .cp_D, .cp_E, .cp_H, .cp_L,
       .cp_atHL, .cp_A] = true := by decide

theorem test_decode_base_Cx :
    decodesTo [0xC0, 0xC1, 0xC2, 0xC3, 0xC4, 0xC5, 0xC6, 0xC7, 0xC8, 0xC9, 0xCA, 0xCC, 0xCD, 0xCE, 0xCF]
      [.ret_NZ, .pop_BC, .jp_NZ_a16 0x1234, .jp_a16 0x1234, .call_NZ_a16 0x1234, .push_BC, .add_A_d8 0x34,
       .rst_00, .ret_Z, .ret, .jp_Z_a16 0x1234, .call_Z_a16 0x1234, .call_a16 0x1234, .adc_A_d8 0x34, .rst_08] = true := by decide

theorem test_decode_base_Dx :
    decodesTo [0xD0, 0xD1, 0xD2, 0xD3, 0xD4, 0xD5, 0xD6, 0xD7, 0xD8, 0xD9, 0xDA, 0xDB, 0xDC, 0xDD, 0xDE, 0xDF]
      [.ret_NC, .pop_DE, .jp_NC_a16 0x1234, .undefined 0xD3, .call_NC_a16 0x1234, .push_DE, .sub_d8 0x34,
       .rst_10, .ret_C, .reti, .jp_C_a16 0x1234, .undefined 0xDB, .call_C_a16 0x1234, .undefined 0xDD,
       .sbc_A_d8 0x34, .rst_18] = true := by decide

theorem test_decode_base_Ex :
    decodesTo [0xE0, 0xE1, 0xE2, 0xE3, 0xE4, 0xE5, 0xE6, 0xE7, 0xE8, 0xE9, 0xEA, 0xEB, 0xEC, 0xED, 0xEE, 0xEF]
      [.ldh_at_a8_A 0x34, .pop_HL, .ld_atC_A, .undefined 0xE3, .undefined 0xE4, .push_HL, .and_d8 0x34,
       .rst_20, .add_SP_e8 0x34, .jp_HL, .ld_at_a16_A 0x1234, .undefined 0xEB, .undefined 0xEC,
       .undefined 0xED, .xor_d8 0x34, .rst_28] = true := by decide

theorem test_decode_base_Fx :
    decodesTo [0xF0, 0xF1, 0xF2, 0xF3, 0xF4, 0xF5, 0xF6, 0xF7, 0xF8, 0xF9, 0xFA, 0xFB, 0xFC, 0xFD, 0xFE, 0xFF]
      [.ldh_A_at_a8 0x34, .pop_AF, .ld_A_atC, .di, .undefined 0xF4, .push_AF, .or_d8 0x34, .rst_30,
       .ld_HL_SPplus_e8 0x34, .ld_SP_HL, .ld_A_at_a16 0x1234, .ei, .undefined 0xFC, .undefined 0xFD,
       .cp_d8 0x34, .rst_38] = true := by decide

theorem test_decode_extended_0x :
    extendedDecodesTo 0x00
      [.rlc_B, .rlc_C, .rlc_D, .rlc_E, .rlc_H, .rlc_L, .rlc_atHL, .rlc_A, .rrc_B, .rrc_C, .rrc_D, .rrc_E,
       .rrc_H, .rrc_L, .rrc_atHL, .rrc_A] = true := by decide

theorem test_decode_extended_1x :
    extendedDecodesTo 0x10
      [.rl_B, .rl_C, .rl_D, .rl_E, .rl_H, .rl_L, .rl_atHL, .rl_A, .rr_B, .rr_C, .rr_D, .rr_E, .rr_H, .rr_L,
       .rr_atHL, .rr_A] = true := by decide

theorem test_decode_extended_2x :
    extendedDecodesTo 0x20
      [.sla_B, .sla_C, .sla_D, .sla_E, .sla_H, .sla_L, .sla_atHL, .sla_A, .sra_B, .sra_C, .sra_D, .sra_E,
       .sra_H, .sra_L, .sra_atHL, .sra_A] = true := by decide

theorem test_decode_extended_3x :
    extendedDecodesTo 0x30
      [.swap_B, .swap_C, .swap_D, .swap_E, .swap_H, .swap_L, .swap_atHL, .swap_A, .srl_B, .srl_C, .srl_D,
       .srl_E, .srl_H, .srl_L, .srl_atHL, .srl_A] = true := by decide

theorem test_decode_extended_4x :
    extendedDecodesTo 0x40
      [.bit_0_B, .bit_0_C, .bit_0_D, .bit_0_E, .bit_0_H, .bit_0_L, .bit_0_atHL, .bit_0_A, .bit_1_B, .bit_1_C,
       .bit_1_D, .bit_1_E, .bit_1_H, .bit_1_L, .bit_1_atHL, .bit_1_A] = true := by decide

theorem test_decode_extended_5x :
    extendedDecodesTo 0x50
      [.bit_2_B, .bit_2_C, .bit_2_D, .bit_2_E, .bit_2_H, .bit_2_L, .bit_2_atHL, .bit_2_A, .bit_3_B, .bit_3_C,
       .bit_3_D, .bit_3_E, .bit_3_H, .bit_3_L, .bit_3_atHL, .bit_3_A] = true := by decide

theorem test_decode_extended_6x :
    extendedDecodesTo 0x60
      [.bit_4_B, .bit_4_C, .bit_4_D, .bit_4_E, .bit_4_H, .bit_4_L, .bit_4_atHL, .bit_4_A, .bit_5_B, .bit_5_C,
       .bit_5_D, .bit_5_E, .bit_5_H, .bit_5_L, .bit_5_atHL, .bit_5_A] = true := by decide

theorem test_decode_extended_7x :
    extendedDecodesTo 0x70
      [.bit_6_B, .bit_6_C, .bit_6_D, .bit_6_E, .bit_6_H, .bit_6_L, .bit_6_atHL, .bit_6_A, .bit_7_B, .bit_7_C,
       .bit_7_D, .bit_7_E, .bit_7_H, .bit_7_L, .bit_7_atHL, .bit_7_A] = true := by decide

theorem test_decode_extended_8x :
    extendedDecodesTo 0x80
      [.res_0_B, .res_0_C, .res_0_D, .res_0_E, .res_0_H, .res_0_L, .res_0_atHL, .res_0_A, .res_1_B, .res_1_C,
       .res_1_D, .res_1_E, .res_1_H, .res_1_L, .res_1_atHL, .res_1_A] = true := by decide

theorem test_decode_extended_9x :
    extendedDecodesTo 0x90
      [.res_2_B, .res_2_C, .res_2_D, .res_2_E, .res_2_H, .res_2_L, .res_2_atHL, .res_2_A, .res_3_B, .res_3_C,
       .res_3_D, .res_3_E, .res_3_H, .res_3_L, .res_3_atHL, .res_3_A] = true := by decide

theorem test_decode_extended_Ax :
    extendedDecodesTo 0xA0
      [.res_4_B, .res_4_C, .res_4_D, .res_4_E, .res_4_H, .res_4_L, .res_4_atHL, .res_4_A, .res_5_B, .res_5_C,
       .res_5_D, .res_5_E, .res_5_H, .res_5_L, .res_5_atHL, .res_5_A] = true := by decide

theorem test_decode_extended_Bx :
    extendedDecodesTo 0xB0
      [.res_6_B, .res_6_C, .res_6_D, .res_6_E, .res_6_H, .res_6_L, .res_6_atHL, .res_6_A, .res_7_B, .res_7_C,
       .res_7_D, .res_7_E, .res_7_H, .res_7_L, .res_7_atHL, .res_7_A] = true := by decide

theorem test_decode_extended_Cx :
    extendedDecodesTo 0xC0
      [.set_0_B, .set_0_C, .set_0_D, .set_0_E, .set_0_H, .set_0_L, .set_0_atHL, .set_0_A, .set_1_B, .set_1_C,
       .set_1_D, .set_1_E, .set_1_H, .set_1_L, .set_1_atHL, .set_1_A] = true := by decide

theorem test_decode_extended_Dx :
    extendedDecodesTo 0xD0
      [.set_2_B, .set_2_C, .set_2_D, .set_2_E, .set_2_H, .set_2_L, .set_2_atHL, .set_2_A, .set_3_B, .set_3_C,
       .set_3_D, .set_3_E, .set_3_H, .set_3_L, .set_3_atHL, .set_3_A] = true := by decide

theorem test_decode_extended_Ex :
    extendedDecodesTo 0xE0
      [.set_4_B, .set_4_C, .set_4_D, .set_4_E, .set_4_H, .set_4_L, .set_4_atHL, .set_4_A, .set_5_B, .set_5_C,
       .set_5_D, .set_5_E, .set_5_H, .set_5_L, .set_5_atHL, .set_5_A] = true := by decide

theorem test_decode_extended_Fx :
    extendedDecodesTo 0xF0
      [.set_6_B, .set_6_C, .set_6_D, .set_6_E, .set_6_H, .set_6_L, .set_6_atHL, .set_6_A, .set_7_B, .set_7_C,
       .set_7_D, .set_7_E, .set_7_H, .set_7_L, .set_7_atHL, .set_7_A] = true := by decide

/-- An instruction cut short is not decoded (rule R80). -/
theorem test_decode_truncated :
    decode [] = .truncated ∧ decode [0xCB] = .truncated ∧ decode [0x3E] = .truncated ∧ decode [0xC3, 0x00] = .truncated := by
  decide

/-- What follows the instruction is left over; low byte first (rule R10). -/
theorem test_decode_leaves_the_rest :
    decode [0xCD, 0xFF, 0x00, 0x12] = .instr (.call_a16 0x00FF) [0x12] ∧ decode [0xCB, 0xFE, 0x00] = .instr .set_7_atHL [0x00] := by
  decide

/-! ### Ill-formed terms -/

/-- The `undefined` check: a defined byte, and the prefix, are refused (rule R79). -/
theorem test_illformed_undefined :
    (Instr.undefined 0x00).wellFormed = false ∧ (Instr.undefined 0xCB).wellFormed = false ∧
    (Instr.undefined 0xD3).wellFormed = true ∧ (Instr.undefined 0xFD).wellFormed = true := by decide

/-- The `prefixCB` check (rules R77, R79). -/
theorem test_illformed_prefix :
    (Instr.prefixCB 0x00).wellFormed = false ∧ (Instr.prefixCB 0xFF).wellFormed = false ∧ Instr.rlc_B.wellFormed = true := by
  decide

/-! ### The opcode table's words -/

theorem test_table_words :
    decodeTableWord 8 0x00 = some .nop ∧ decodeTableWord 16 0xCB37 = some .swap_A ∧
    decodeTableWord 16 0x0500 = some .nop ∧ decodeTableWord 16 0x053E = some (.ld_A_d8 0x05) ∧
    decodeTableWord 24 0x1234C3 = some (.jp_a16 0x1234) ∧ decodeTableWord 8 0xCB = some .rlc_B := by decide

theorem test_table_word_runs :
    (match step (State.reset.withFetchWord 16 0x053E) with
      | .next t => t.regs.a == 0x05 && t.pc == 0x0002
      | _ => false) = true ∧
    (match step (State.reset.withFetchWord 16 0xCBC7) with
      | .next t => t.regs.a == 0x01 && t.pc == 0x0002
      | _ => false) = true := by decide

/-- The meaning of the prefix row: the row of its second byte. -/
theorem test_prefix_row :
    exec (.prefixCB 0xC7) State.reset = .next { State.reset with regs := { noRegs with a := 0x01 }, pc := 2 } := by rfl

/-- Memory: reset is canonical; writing the value an unlisted byte reads as removes the entry; cells stay sorted. -/
theorem test_memory_form :
    Memory.wf State.reset.bus.cells = true ∧ Memory.poke [(5, 1)] 5 0 = [] ∧
    Memory.poke (Memory.poke [] 9 1) 3 2 = [(3, 2), (9, 1)] ∧ Memory.wf [(9, 1), (3, 2)] = false ∧
    Memory.wf [(3, 0)] = false ∧ Memory.wf [(65536, 1)] = false := by decide

/-! ### Witnesses: for each statement with hypotheses, states and operands that meet them, clause by clause -/

/-- A running machine over flat RAM in which tier G executes. -/
def base : State := place .admitG 0x0100 0xFFFE [0x80] { noRegs with a := 0x3A, b := 0xC6 } noFlags [(0xC000, 0x7F)]

/-- The same with tier G refused. -/
def plain : State := { base with params := { base.params with gkOps := .refuse } }

/-- `base` with HL at the listed byte 0xC000 and the answers of the next accesses given. -/
def atHl (script : List BusAnswer) : State := scripted { base with regs := { base.regs with h := 0xC0 } } script

theorem witness_DecodingAnEncodedInstructionGivesItBack :
    (Instr.ld_HL_d16 0xFF00).wellFormed = true ∧ (Instr.undefined 0xD3).wellFormed = true ∧ Instr.halt.wellFormed = true := by
  decide

theorem witness_DecodedBytesEncodeBack : decode [0xC3, 0xFF, 0x00, 0x76] = .instr (.jp_a16 0x00FF) [0x76] := by decide

theorem witness_EveryPrefixedByteDecodesByItsFields :
    (0x3F : Byte).toNat / 64 = 0 ∧ (0x40 : Byte).toNat / 64 = 1 ∧ (0xBF : Byte).toNat / 64 = 2 ∧
    (0xFF : Byte).toNat / 64 = 3 := by decide

theorem witness_LengthFollowsFromTheFirstByte :
    (Instr.nop.wellFormed = true ∧ Instr.nop.tier ≠ .u ∧ Instr.nop.length = 1) ∧
    ((Instr.jr_e8 0x80).wellFormed = true ∧ (Instr.jr_e8 0x80).tier ≠ .u ∧ (Instr.jr_e8 0x80).length = 2) ∧
    (Instr.stop.wellFormed = true ∧ Instr.stop.tier ≠ .u ∧ Instr.stop.length = 2) ∧
    ((Instr.jp_a16 0xFFFF).wellFormed = true ∧ (Instr.jp_a16 0xFFFF).tier ≠ .u ∧ (Instr.jp_a16 0xFFFF).length = 3) := by
  decide

theorem witness_FlatRamKeepsWhatIsWritten :
    base.bus.FlatRam ∧ Memory.wf base.bus.cells = true ∧ (0xFFFF : Word) ≠ 0x0000 := by decide

/-- `LD (0xFFFF),A` with A = 0x80, the opcode of ADD A,B. -/
theorem witness_StoredOpcodeIsFetched :
    let s : State := { base with regs := { base.regs with a := 0x80 } }
    s.FlatRam ∧ s.Inv ∧ s.status = .running ∧ Instr.add_A_B.wellFormed = true ∧ Instr.add_A_B.tier = .s ∧
    encode .add_A_B = [s.regs.a] ∧
    exec (.ld_at_a16_A 0xFFFF) s = .next { s with pc := 0x0103, bus := s.bus.poke 0xFFFF 0x80 } := by
  refine ⟨?_, ?_, ?_, ?_, ?_, ?_, rfl⟩ <;> decide

/-- Also where PC wraps: the bytes of LD A,d8 at 0xFFFF and 0x0000. -/
theorem witness_StepRunsTheDecodedInstruction :
    let s := place .refuse 0xFFFF 0xFFFE [0x3E, 0x05] noRegs noFlags []
    base.status = .running ∧ base.FlatRam ∧
    decode [base.bus.peek base.pc, base.bus.peek (base.pc + 1), base.bus.peek (base.pc + 2)] = .instr .add_A_B [0, 0] ∧
    s.status = .running ∧ s.FlatRam ∧
    decode [s.bus.peek s.pc, s.bus.peek (s.pc + 1), s.bus.peek (s.pc + 2)] = .instr (.ld_A_d8 0x05) [0] := by decide

theorem witness_StepReadsTheInstructionBytesInOrder :
    let s := scripted plain [.device 0x3E, .device 0x05, .ram]
    s.status = .running ∧ (Instr.ld_A_d8 0x05).wellFormed = true ∧
    ((Instr.ld_A_d8 0x05).tier = .g → s.params.gkOps = .admitG) ∧
    s.bus.ReadsBytes s.pc (encode (.ld_A_d8 0x05)) { s.bus with script := [.ram] } :=
  ⟨rfl, rfl, by decide, _, rfl, _, rfl, rfl⟩

theorem witness_StoppedRunStaysStopped :
    { base with status := .stopped (.decodeFailure 0x0100 0xD3) }.status = .stopped (.decodeFailure 0x0100 0xD3) := rfl

theorem witness_UndefinedBytesAreDecodeFailures :
    let s := scripted base [.device 0xD3]
    let t := scripted base [.device 0xDE]
    s.status = .running ∧ s.bus.read s.pc = .byte 0xD3 { s.bus with script := [] } ∧
    (0xD3 : Byte) ∈ ([0xD3, 0xDB, 0xDD, 0xE3, 0xE4, 0xEB, 0xEC, 0xED, 0xF4, 0xFC, 0xFD] : List Byte) ∧
    t.status = .running ∧ t.bus.read t.pc = .byte 0xDE { t.bus with script := [] } ∧
    (0xDE : Byte) ∉ ([0xD3, 0xDB, 0xDD, 0xE3, 0xE4, 0xEB, 0xEC, 0xED, 0xF4, 0xFC, 0xFD] : List Byte) := by decide

theorem witness_TierXIsAlwaysRefused :
    let s := scripted base [.device 0x76]
    s.status = .running ∧ s.bus.read s.pc = .byte 0x76 { s.bus with script := [] } := by decide

theorem witness_TierGIsRefusedByDefault :
    (let s := scripted plain [.device 0xF3]
     s.status = .running ∧ s.params.gkOps = .refuse ∧ s.bus.read s.pc = .byte 0xF3 { s.bus with script := [] }) ∧
    (let s := scripted base [.device 0x31, .device 0xFF, .device 0x00]
     s.status = .running ∧ s.params.gkOps = .admitG ∧ (Instr.ld_SP_d16 0x00FF).tier = .g ∧
     s.bus.ReadsBytes s.pc (encode (.ld_SP_d16 0x00FF)) { s.bus with script := [] }) :=
  ⟨⟨rfl, rfl, rfl⟩, rfl, rfl, rfl, _, rfl, _, rfl, _, rfl, rfl⟩

theorem witness_PairViewsReadTheirHalves : Pair.hl ≠ .af := by decide

/-- The opcode fetch; the second byte of a prefixed, an immediate and an admitted tier-G instruction; the third byte. -/
theorem witness_FailingFetchEndsTheStep :
    (plain.setBus { cells := [], script := [.fail 7] }).bus.read 0x0100 = .fail 7 { cells := [], script := [] } ∧
    (let bus : Bus := { cells := [], script := [.device 0xCB, .fail 7] }
     bus.read 0x0100 = .byte 0xCB { bus with script := [.fail 7] } ∧
     Bus.read { bus with script := [.fail 7] } 0x0101 = .fail 7 { bus with script := [] }) ∧
    (operandCount 0x3E ≠ 0 ∧ (byteTier 0x3E = .g → plain.params.gkOps = .admitG)) ∧
    (operandCount 0xC6 ≠ 0 ∧ (byteTier 0xC6 = .g → base.params.gkOps = .admitG)) ∧
    (let bus : Bus := { cells := [], script := [.device 0xCD, .device 0x00, .fail 7] }
     operandCount 0xCD = 2 ∧ (byteTier 0xCD = .g → base.params.gkOps = .admitG) ∧
     bus.read 0x0100 = .byte 0xCD { bus with script := [.device 0x00, .fail 7] } ∧
     Bus.read { bus with script := [.device 0x00, .fail 7] } 0x0101 = .byte 0x00 { bus with script := [.fail 7] } ∧
     Bus.read { bus with script := [.fail 7] } 0x0102 = .fail 7 { bus with script := [] }) := by decide

theorem witness_StoppedStepKeepsTheRegisterFile :
    (scripted base [.device 0xD3]).status = .running ∧
    (∀ t, step (scripted base [.device 0xD3]) ≠ .next t) ∧ (∀ t, step (scripted base [.device 0x76]) ≠ .next t) :=
  ⟨rfl, fun _ h => (nomatch h), fun _ h => (nomatch h)⟩

/-- INC (HL) whose write fails. -/
theorem witness_StoppedTierSStepHasWrittenNothing :
    let s := scripted plain [.device 0x34, .device 0x7F, .fail 7]
    s.params.gkOps = .refuse ∧ s.status = .running ∧ ∀ t, step s ≠ .next t :=
  ⟨rfl, rfl, fun _ h => (nomatch h)⟩

/-- PUSH BC whose second write fails, and INC (HL) whose write fails. -/
theorem witness_FaultTouchesOnlyTheStoredBytes :
    (let s := scripted base [.ram, .fail 7]
     exec .push_BC s = .fault (.busFailure .write 0xFFFC (some 0x00) 7 ({ s.bus with script := [] }.poke 0xFFFD 0xC6))) ∧
    (let s := atHl [.ram, .fail 7]
     exec .inc_atHL s = .fault (.busFailure .write 0xC000 (some 0x80) 7 { s.bus with script := [] }) ∧
     (Instr.inc_atHL.shape.storesAt s).length ≤ 1) := by
  refine ⟨rfl, rfl, by decide⟩

theorem witness_StepKeepsTheMemoryCanonical :
    base.Inv ∧ step base = .next { base with regs := { base.regs with a := 0x00 }, flags := ⟨true, false, true, true⟩, pc := 0x0101 } :=
  ⟨by decide, rfl⟩

theorem witness_StepKeepsParametersAndStatus :
    step base = .next { base with regs := { base.regs with a := 0x00 }, flags := ⟨true, false, true, true⟩, pc := 0x0101 } := rfl

theorem witness_FlatRamNeverFails : base.FlatRam := ⟨rfl, rfl⟩

theorem witness_AdmittedInstructionsCompleteOnFlatRam :
    base.FlatRam ∧ plain.FlatRam ∧ Admitted .inc_atHL plain ∧ Admitted (.call_a16 0xFFFF) base ∧
    (∃ b, Instr.prefixCB 0xFF = .prefixCB b) :=
  ⟨⟨rfl, rfl⟩, ⟨rfl, rfl⟩, .inl rfl, .inr ⟨rfl, rfl⟩, 0xFF, rfl⟩

/-- INC (HL) takes two answers, and CALL NZ not taken takes none. -/
theorem witness_InstructionsIssueExactlyTheirAccesses :
    (∃ t, exec .inc_atHL (atHl [.ram, .ram, .ram]) = .next t) ∧
    (∃ t, exec (.call_NZ_a16 0xFFFF) { base with flags := { noFlags with z := true } } = .next t) :=
  ⟨⟨_, rfl⟩, _, rfl⟩

/-- On a bus that would fail: a register form, and RET C not taken. -/
theorem witness_RegisterOnlyInstructionsNeverFail :
    let s := scripted base [.fail 7]
    Admitted .add_A_B s ∧ Instr.add_A_B.shape.accesses s.flags = 0 ∧
    Admitted .ret_C s ∧ Instr.ret_C.shape.accesses s.flags = 0 :=
  ⟨.inl rfl, rfl, .inr ⟨rfl, rfl⟩, rfl⟩

/-- PUSH with SP = 0 stores at 0xFFFF and 0xFFFE; a form that stores nothing. -/
theorem witness_MemoryOutsideTheStoreIsUnchanged :
    (let s : State := { base with sp := 0x0000 }
     (∃ t, exec .push_BC s = .next t) ∧ (0x0000 : Word) ∉ Instr.push_BC.shape.storesAt s ∧
     Instr.push_BC.shape.storesAt s = [0xFFFF, 0xFFFE]) ∧
    (∃ t, exec .cp_B base = .next t) ∧ (0xC000 : Word) ∉ Instr.cp_B.shape.storesAt base :=
  ⟨⟨⟨_, rfl⟩, by decide, by decide⟩, ⟨_, rfl⟩, by decide⟩

theorem witness_OtherRegistersAreUnchanged :
    (∃ t, exec .add_A_B base = .next t) ∧ Reg8.b ∉ Instr.add_A_B.shape.regsWritten ∧
    Instr.add_A_B.shape.writesSp = false ∧ (∃ t, exec .cp_B base = .next t) ∧ Reg8.a ∉ Instr.cp_B.shape.regsWritten :=
  ⟨⟨_, rfl⟩, by decide, rfl, ⟨_, rfl⟩, by decide⟩

/-- z: SCF; n: DAA; h: LD; c: INC. -/
theorem witness_OtherFlagsAreUnchanged :
    (∃ t, exec .scf base = .next t) ∧ Instr.scf.shape.flagsWritten.z = false ∧
    (∃ t, exec .daa base = .next t) ∧ Instr.daa.shape.flagsWritten.n = false ∧
    (∃ t, exec .ld_A_B base = .next t) ∧ Instr.ld_A_B.shape.flagsWritten.h = false ∧
    (∃ t, exec .inc_B base = .next t) ∧ Instr.inc_B.shape.flagsWritten.c = false :=
  ⟨⟨_, rfl⟩, rfl, ⟨_, rfl⟩, rfl, ⟨_, rfl⟩, rfl, ⟨_, rfl⟩, rfl⟩

theorem witness_TierSKeepsSpButForIncAndDec :
    Instr.add_HL_SP.tier = .s ∧ Instr.add_HL_SP ≠ .inc_SP ∧ Instr.add_HL_SP ≠ .dec_SP ∧ ∃ t, exec .add_HL_SP base = .next t :=
  ⟨rfl, by decide, by decide, _, rfl⟩

/-- JR NZ not taken at the top of the address space. -/
theorem witness_PcAdvancesByTheLength :
    let s : State := { base with pc := 0xFFFF, flags := { noFlags with z := true } }
    (Instr.jr_NZ_e8 0x05).wellFormed = true ∧ exec (.jr_NZ_e8 0x05) s = .next { s with pc := 0x0001 } ∧
    (Instr.jr_NZ_e8 0x05).form.setsPc s.flags = false := ⟨rfl, rfl, rfl⟩

theorem witness_TierSIgnoresTheParameters :
    Instr.inc_atHL.tier = .s ∧ (∃ t, exec .inc_atHL (atHl []) = .next t) ∧
    (∃ f, exec .inc_atHL (atHl [.fail 7]) = .fault f) := ⟨rfl, ⟨_, rfl⟩, _, rfl⟩

/-- `JR -2`, `JP` to itself across the top of the address space, and a run that comes to `JR -2` at its second boundary. -/
theorem witness_SelfLoopLeavesTheState :
    let s := place .refuse 0x0108 0xFFFE [0x18, 0xFE] noRegs noFlags []
    let t := place .refuse 0xFFFE 0xFFFE [0xC3, 0xFE, 0xFF] noRegs noFlags []
    let start := place .refuse 0x0107 0xFFFE [0x40, 0x18, 0xFE] noRegs noFlags []
    (s.status = .running ∧ s.FlatRam ∧ s.atSelfLoop = true) ∧ (t.status = .running ∧ t.FlatRam ∧ t.atSelfLoop = true) ∧
    ((start.requests 1).status = .running ∧ (start.requests 1).atSelfLoop = true ∧
      ∀ j < 1, (start.requests j).atEndOfRun = false) := by
  decide

/-- Rule R336 (c) where a device answers the fetch: its bytes count, and the RAM's do not. -/
theorem test_self_loop_is_what_the_fetch_gets :
    let ram := place .refuse 0x0108 0xFFFE [0x18, 0xFE] noRegs noFlags []
    let blank := place .refuse 0x0108 0xFFFE [] noRegs noFlags []
    (blank.setBus { blank.bus with script := [.device 0x18, .device 0xFE] }).atSelfLoop = true ∧
    (ram.setBus { ram.bus with script := [.device 0x3C] }).atSelfLoop = false ∧
    (ram.setBus { ram.bus with script := [.ram, .fail 7] }).atSelfLoop = false := by
  decide

/-- Rule R336: `LD B,B` and then `JR -2` end after one step, at the self-loop; under a step bound of 0, before it. -/
theorem test_run_ends_at_the_first_self_loop :
    let s := place .refuse 0x0107 0xFFFE [0x40, 0x18, 0xFE] noRegs noFlags []
    s.runFrom 5 = { steps := 1, state := s.setPc 0x0108 } ∧ s.runFrom 0 = { steps := 0, state := s } := by
  decide

/-- Rule R336 (a): a run from a reset, ended by the step at an undefined byte at ENTRY_PC. -/
theorem test_run_from_reset_ends_at_a_stop :
    let s := place .refuse 0x0000 0x0000 [0xD3] noRegs noFlags []
    ({ s with pc := 0x1234, status := .stopped (.decodeFailure 0x1234 0xE3) } : State).runReset 5 =
      { steps := 1, state := { s with status := .stopped (.decodeFailure 0x0000 0xD3) } } := by
  decide

/-- The operand B, and the operand `(HL)`, read by a device and written to RAM. -/
theorem witness_operands :
    ReadsOperand base (.reg .b) 0xC6 base ∧ WritesOperand base (.reg .b) 0xC7 (base.setReg .b 0xC7) ∧
    ReadsOperand (atHl [.device 0xFF, .ram]) .atHL 0xFF (atHl [.ram]) ∧
    WritesOperand (atHl [.ram]) .atHL 0x00 ((atHl []).setBus ((atHl []).bus.poke 0xC000 0x00)) :=
  ⟨⟨rfl, rfl⟩, rfl, ⟨_, rfl, rfl⟩, _, rfl, rfl⟩

/-- A failing read of the operand, of an immediate at PC + 1 and PC + 2, of a tier-S and of a tier-G instruction. -/
theorem witness_failing_reads :
    (atHl [.fail 7]).bus.read ((atHl [.fail 7]).pair .hl) = .fail 7 (atHl []).bus ∧
    (let s := scripted plain [.device 0x06, .fail 7]
     s.status = .running ∧ Admitted (.ld_B_d8 0x00) s ∧ 1 < (encode (.ld_B_d8 0x00)).length ∧
     s.bus.ReadsBytes s.pc ((encode (.ld_B_d8 0x00)).take 1) { s.bus with script := [.fail 7] } ∧
     Bus.read { s.bus with script := [.fail 7] } (s.pc + BitVec.ofNat 16 1) = .fail 7 { s.bus with script := [] }) ∧
    (let s := scripted base [.device 0xCD, .device 0x34, .fail 7]
     s.status = .running ∧ Admitted (.call_a16 0x1234) s ∧ 2 < (encode (.call_a16 0x1234)).length ∧
     s.bus.ReadsBytes s.pc ((encode (.call_a16 0x1234)).take 2) { s.bus with script := [.fail 7] } ∧
     Bus.read { s.bus with script := [.fail 7] } (s.pc + BitVec.ofNat 16 2) = .fail 7 { s.bus with script := [] }) :=
  ⟨rfl, ⟨rfl, .inl rfl, by decide, ⟨_, rfl, rfl⟩, rfl⟩, rfl, .inr ⟨rfl, rfl⟩, by decide, ⟨_, rfl, _, rfl, rfl⟩, rfl⟩

/-- AccumulatorOperationsOnAnOperand, BitTest, LoadsAndStoresThroughHl: the read of a register and of `(HL)`. -/
theorem witness_AccumulatorOperationsOnAnOperand :
    ReadsOperand base (.reg .a) 0x3A base ∧ ReadsOperand (atHl [.device 0xFF]) .atHL 0xFF (atHl []) :=
  ⟨⟨rfl, rfl⟩, _, rfl, rfl⟩

theorem witness_AccumulatorOperationsOnAnImmediate : base.params.gkOps = .admitG := rfl

/-- 0xFF to 0x00 and 0x00 to 0xFF, in a register and at `(HL)`; a failing write. -/
theorem witness_ByteIncrementAndDecrement :
    (ReadsOperand (base.setReg .b 0xFF) (.reg .b) 0xFF (base.setReg .b 0xFF) ∧
     WritesOperand (base.setReg .b 0xFF) (.reg .b) (BitVec.ofNat 8 ((0xFF + 1) % 256)) (base.setReg .b 0x00)) ∧
    (ReadsOperand (atHl [.device 0x00, .device 0x00]) .atHL 0x00 (atHl [.device 0x00]) ∧
     WritesOperand (atHl [.device 0x00]) .atHL (BitVec.ofNat 8 ((0x00 + 255) % 256)) (atHl [])) ∧
    (atHl [.ram, .fail 7]).bus.read ((atHl []).pair .hl) = .byte 0x7F (atHl [.fail 7]).bus ∧
    (atHl [.fail 7]).bus.write ((atHl []).pair .hl) (0x7F + 1) = .fail 7 (atHl []).bus ∧
    (atHl [.fail 7]).bus.write ((atHl []).pair .hl) (0x7F - 1) = .fail 7 (atHl []).bus :=
  ⟨⟨⟨rfl, rfl⟩, rfl⟩, ⟨⟨_, rfl, rfl⟩, _, rfl, rfl⟩, rfl, rfl, rfl⟩

/-- SLA of 0x80 in a register, RR of 0x01 at `(HL)`; a failing write. -/
theorem witness_RotatesAndShifts :
    (ReadsOperand (base.setReg .b 0x80) (.reg .b) 0x80 (base.setReg .b 0x80) ∧
     WritesOperand (base.setReg .b 0x80) (.reg .b) (BitVec.ofNat 8 (RotOp.value 0x80 0 .sla)) (base.setReg .b 0x00)) ∧
    (ReadsOperand (atHl [.device 0x01, .ram]) .atHL 0x01 (atHl [.ram]) ∧
     WritesOperand (atHl [.ram]) .atHL (BitVec.ofNat 8 (RotOp.value 0x01 0 .rr)) ((atHl []).setBus ((atHl []).bus.poke 0xC000 0x00))) ∧
    (atHl [.device 0x01, .fail 7]).bus.read ((atHl []).pair .hl) = .byte 0x01 (atHl [.fail 7]).bus ∧
    (atHl [.fail 7]).bus.write ((atHl []).pair .hl) (BitVec.ofNat 8 (RotOp.value 0x01 0 .srl)) = .fail 7 (atHl []).bus :=
  ⟨⟨⟨rfl, rfl⟩, rfl⟩, ⟨⟨_, rfl, rfl⟩, _, rfl, rfl⟩, rfl, rfl⟩

/-- BIT 7,(HL) twice. -/
theorem witness_BitTest :
    ReadsOperand base (.reg .b) 0xC6 base ∧ ReadsOperand (atHl [.device 0x80]) .atHL 0x80 (atHl []) ∧ (atHl []).FlatRam ∧
    (∃ t, exec (.bitTest 7 .atHL) (atHl []) = .next t ∧ ∃ u, exec (.bitTest 7 .atHL) t = .next u) :=
  ⟨⟨rfl, rfl⟩, ⟨_, rfl, rfl⟩, ⟨rfl, rfl⟩, _, rfl, _, rfl⟩

/-- RES 7 and SET 7 of B = 0xC6; RES 0 and SET 0 at `(HL)` with a failing write. -/
theorem witness_BitResetAndSet :
    ReadsOperand base (.reg .b) 0xC6 base ∧
    WritesOperand base (.reg .b) (BitVec.ofNat 8 (0xC6 - 1 * 2 ^ 7)) (base.setReg .b 0x46) ∧
    WritesOperand base (.reg .b) (BitVec.ofNat 8 (0xC6 + (1 - 1) * 2 ^ 7)) (base.setReg .b 0xC6) ∧
    (atHl [.device 0x80, .fail 7]).bus.read ((atHl []).pair .hl) = .byte 0x80 (atHl [.fail 7]).bus ∧
    (atHl [.fail 7]).bus.write ((atHl []).pair .hl) 0x80 = .fail 7 (atHl []).bus ∧
    (∀ k < 8, (0x80 : Byte).getLsbD k = ((0x80 : Byte).getLsbD k && decide (k ≠ (0 : Fin 8).val))) ∧
    (atHl [.fail 7]).bus.write ((atHl []).pair .hl) 0x81 = .fail 7 (atHl []).bus ∧
    (∀ k < 8, (0x81 : Byte).getLsbD k = ((0x80 : Byte).getLsbD k || decide (k = (0 : Fin 8).val))) :=
  ⟨⟨rfl, rfl⟩, rfl, rfl, rfl, rfl, by decide, rfl, by decide⟩

theorem witness_LoadsAndStoresThroughHl :
    (atHl [.device 0x55]).bus.read 0xC000 = .byte 0x55 (atHl []).bus ∧
    (atHl [.device 0x00]).bus.write 0xC000 0xC6 = .done (atHl []).bus ∧
    (atHl [.fail 7]).bus.write 0xC000 0xC6 = .fail 7 (atHl []).bus := ⟨rfl, rfl, rfl⟩

/-- LDH (a8),A at 0xFFFF: served and failing. -/
theorem witness_AccumulatorLoadsAndStores :
    (MemOpd.high 0xFF).addr base = 0xFFFF ∧
    (scripted base [.device 0x55]).bus.read 0xFFFF = .byte 0x55 (scripted base []).bus ∧
    (scripted base [.fail 7]).bus.read 0xFFFF = .fail 7 (scripted base []).bus ∧
    (scripted base [.ram]).bus.write 0xFFFF 0x3A = .done (base.bus.poke 0xFFFF 0x3A) ∧
    (scripted base [.fail 7]).bus.write 0xFFFF 0x3A = .fail 7 (scripted base []).bus := ⟨by decide, rfl, rfl, rfl, rfl⟩

theorem witness_LoadsAndStoresThatStepHl :
    (atHl [.device 0x55]).bus.read 0xC000 = .byte 0x55 (atHl []).bus ∧
    (atHl [.fail 7]).bus.read 0xC000 = .fail 7 (atHl []).bus ∧
    (atHl [.device 0x00]).bus.write 0xC000 0x3A = .done (atHl []).bus ∧
    (atHl [.fail 7]).bus.write 0xC000 0x3A = .fail 7 (atHl []).bus := ⟨rfl, rfl, rfl, rfl⟩

theorem witness_NopAndDiOnlyAdvance : base.params.gkOps = .admitG := rfl

theorem witness_DecimalAdjust : base.params.gkOps = .admitG := rfl

/-- 99 and 99, with the carry set: the sum and the difference both pass through DAA. -/
theorem witness_DecimalAdjustAfterAddAndSubtract :
    let s : State := { base with regs := { noRegs with a := 0x99 }, flags := { noFlags with c := true } }
    s.params.gkOps = .admitG ∧ s.regs.a = bcdByte 99 ∧
    (∃ t, exec (.aluImm .add (bcdByte 99)) s = .next t ∧ ∃ u, exec .daa t = .next u) ∧
    (∃ t, exec (.aluImm .adc (bcdByte 99)) s = .next t ∧ ∃ u, exec .daa t = .next u) ∧
    (∃ t, exec (.aluImm .sub (bcdByte 0)) s = .next t ∧ ∃ u, exec .daa t = .next u) ∧
    (∃ t, exec (.aluImm .sbc (bcdByte 99)) s = .next t ∧ ∃ u, exec .daa t = .next u) :=
  ⟨rfl, by decide, ⟨_, rfl, _, rfl⟩, ⟨_, rfl, _, rfl⟩, ⟨_, rfl, _, rfl⟩, _, rfl, _, rfl⟩

/-- The accesses of PUSH, CALL, RST and `LD (a16),SP`: both served, the first failing, the second failing. -/
theorem witness_two_writes :
    let bus (l : List BusAnswer) : Bus := { cells := [], script := l }
    (bus [.ram, .ram]).write 0xFFFF 0x01 = .done { cells := [(65535, 1)], script := [.ram] } ∧
    Bus.write { cells := [(65535, 1)], script := [.ram] } 0xFFFE 0x03 = .done { cells := [(65534, 3), (65535, 1)], script := [] } ∧
    (bus [.fail 7]).write 0xFFFF 0x01 = .fail 7 (bus []) ∧
    (bus [.device 0, .fail 7]).write 0xFFFF 0x01 = .done (bus [.fail 7]) ∧
    (bus [.fail 7]).write 0xFFFE 0x03 = .fail 7 (bus []) := by decide

/-- The accesses of POP and RET: both served, the first failing, the second failing. -/
theorem witness_two_reads :
    let bus (l : List BusAnswer) : Bus := { cells := [], script := l }
    (bus [.device 0xF0, .device 0x12]).read 0xFFFF = .byte 0xF0 (bus [.device 0x12]) ∧
    (bus [.device 0x12]).read 0x0000 = .byte 0x12 (bus []) ∧
    (bus [.fail 7]).read 0xFFFF = .fail 7 (bus []) ∧
    (bus [.device 0xF0, .fail 7]).read 0xFFFF = .byte 0xF0 (bus [.fail 7]) ∧
    (bus [.fail 7]).read 0x0000 = .fail 7 (bus []) := by decide

/-- PUSH BC and POP AF at SP = 0xFFFF: served, and each access failing. -/
theorem witness_PushAndPop :
    let s (l : List BusAnswer) : State := scripted { base with sp := 0xFFFF } l
    (s []).params.gkOps = .admitG ∧ hi8 ((s []).pair .bc) = 0xC6 ∧ lo8 ((s []).pair .bc) = 0x00 ∧
    (s [.device 0, .device 0]).bus.write 0xFFFE 0xC6 = .done (s [.device 0]).bus ∧
    (s [.device 0]).bus.write 0xFFFD 0x00 = .done (s []).bus ∧
    (s [.fail 7]).bus.write 0xFFFE 0xC6 = .fail 7 (s []).bus ∧
    (s [.device 0, .fail 7]).bus.write 0xFFFE 0xC6 = .done (s [.fail 7]).bus ∧
    (s [.fail 7]).bus.write 0xFFFD 0x00 = .fail 7 (s []).bus ∧
    (s [.device 1, .device 2]).bus.read 0xFFFF = .byte 1 (s [.device 2]).bus ∧
    (s [.device 2]).bus.read 0x0000 = .byte 2 (s []).bus ∧
    (s [.fail 7]).bus.read 0xFFFF = .fail 7 (s []).bus ∧
    (s [.device 1, .fail 7]).bus.read 0xFFFF = .byte 1 (s [.fail 7]).bus ∧
    (s [.fail 7]).bus.read 0x0000 = .fail 7 (s []).bus := by decide

/-- CALL, CALL Z taken and RST 38H at PC = 0xFFFE, whose return addresses are 0x0001 and 0xFFFF; CALL Z not taken. -/
theorem witness_CallsAndRestarts :
    let s (l : List BusAnswer) : State := scripted { base with pc := 0xFFFE, sp := 0x0000, flags := { noFlags with z := true } } l
    (s []).params.gkOps = .admitG ∧
    (∃ cc, Instr.callIf .z 0x1234 = .callIf cc 0x1234 ∧ (3 : Word) = 3) ∧ condHolds (s []).flags .z = true ∧
    (∃ y : Fin 8, Instr.restart 7 = .restart y ∧ (0x0038 : Word) = BitVec.ofNat 16 (8 * y.val) ∧ (1 : Word) = 1) ∧
    ((s []).pc + 3 = 0x0001 ∧ (s []).pc + 1 = 0xFFFF ∧ (s []).sp - 1 = 0xFFFF ∧ (s []).sp - 2 = 0xFFFE) ∧
    (s [.device 0, .device 0]).bus.write 0xFFFF 0x00 = .done (s [.device 0]).bus ∧
    (s [.device 0]).bus.write 0xFFFE 0x01 = .done (s []).bus ∧
    (s [.fail 7]).bus.write 0xFFFF 0x00 = .fail 7 (s []).bus ∧
    (s [.device 0, .fail 7]).bus.write 0xFFFF 0x00 = .done (s [.fail 7]).bus ∧
    (s [.fail 7]).bus.write 0xFFFE 0x01 = .fail 7 (s []).bus ∧
    condHolds (s []).flags .nz = false :=
  ⟨rfl, ⟨.z, rfl, rfl⟩, rfl, ⟨7, rfl, rfl, rfl⟩, by decide, rfl, rfl, rfl, rfl, rfl, rfl⟩

/-- RET and RET C taken at SP = 0xFFFF; RET NC not taken. -/
theorem witness_Returns :
    let s (l : List BusAnswer) : State := scripted { base with sp := 0xFFFF, flags := { noFlags with c := true } } l
    (s []).params.gkOps = .admitG ∧ (∃ cc, Instr.retIf .c = .retIf cc ∧ condHolds (s []).flags cc = true) ∧
    (s [.device 1, .device 2]).bus.read 0xFFFF = .byte 1 (s [.device 2]).bus ∧
    (s [.device 2]).bus.read 0x0000 = .byte 2 (s []).bus ∧
    (s [.fail 7]).bus.read 0xFFFF = .fail 7 (s []).bus ∧
    (s [.device 1, .fail 7]).bus.read 0xFFFF = .byte 1 (s [.fail 7]).bus ∧
    (s [.fail 7]).bus.read 0x0000 = .fail 7 (s []).bus ∧ condHolds (s []).flags .nc = false :=
  ⟨rfl, ⟨.c, rfl, rfl⟩, rfl, rfl, rfl, rfl, rfl, rfl⟩

/-- `LD (0xFFFF),SP`, whose second byte goes to 0x0000. -/
theorem witness_StackPointerOperations :
    let s (l : List BusAnswer) : State := scripted base l
    (s []).params.gkOps = .admitG ∧
    (s [.device 0, .device 0]).bus.write 0xFFFF 0xFE = .done (s [.device 0]).bus ∧
    (s [.device 0]).bus.write (0xFFFF + 1) 0xFF = .done (s []).bus ∧
    (s [.fail 7]).bus.write 0xFFFF 0xFE = .fail 7 (s []).bus ∧
    (s [.device 0, .fail 7]).bus.write 0xFFFF 0xFE = .done (s [.fail 7]).bus ∧
    (s [.fail 7]).bus.write (0xFFFF + 1) 0xFF = .fail 7 (s []).bus := ⟨rfl, rfl, rfl, rfl, rfl, rfl⟩

/-- PUSH BC, then POP AF; CALL, then RET. -/
theorem witness_StackRoundTrips :
    base.Inv ∧ base.FlatRam ∧ base.params.gkOps = .admitG ∧
    (∃ t, exec (.pushPair .bc) base = .next t ∧ ∃ u, exec (.popPair .af) t = .next u) ∧
    (∃ t, exec (.call_a16 0x2000) base = .next t ∧ ∃ u, exec .ret { t with pc := 0xFFFF } = .next u) :=
  ⟨by decide, ⟨rfl, rfl⟩, rfl, ⟨_, rfl, _, rfl⟩, _, rfl, _, rfl⟩

end Sys2Proof.Tests
end

section
/-! The parameters and the run status (spec/00_scope.md rules R4, R6; spec/10_state.md rule R17): no meaning looks at them,
but for the tier-G gate and the tier-X refusal.  `State.under` replaces both and `AgreeUnder` compares two answers up to
them; each shared operation has one rule, and `Form.body_agree` puts the rules together for every shape. -/

namespace Sys2Proof.Machine

/-- `s` with these parameters and this run status in place of its own. -/
def State.under (s : State) (p : Params) (st : RunStatus) : State := { s with params := p, status := st }

/-- The second answer is the first with the parameters and the run status of its next state replaced: the same next state
under them, or the same fault.  A refusal agrees with nothing. -/
inductive AgreeUnder (p : Params) (st : RunStatus) : Result → Result → Prop
  | next (t : State) : AgreeUnder p st (.next t) (.next (t.under p st))
  | fault (f : Fault) : AgreeUnder p st (.fault f) (.fault f)

variable {p : Params} {st : RunStatus} {s t : State} {f : Fault} {r : Refusal} {x x' y y' : Result}

@[simp] theorem State.under_params (s : State) (p : Params) (st : RunStatus) : (s.under p st).params = p := rfl

@[simp] theorem State.under_status (s : State) (p : Params) (st : RunStatus) : (s.under p st).status = st := rfl

@[simp] theorem State.under_self (s : State) : s.under s.params s.status = s := rfl

@[simp] theorem State.setPair_under (q : Pair) (w : Word) : (s.under p st).setPair q w = (s.setPair q w).under p st := by
  cases q <;> rfl

@[simp] theorem State.pair_under (q : Pair) : (s.under p st).pair q = s.pair q := by cases q <;> rfl

/-! ### What agreeing says -/

theorem AgreeUnder.eq_next (h : AgreeUnder p st (.next t) y) : y = .next (t.under p st) := by cases h; rfl

theorem AgreeUnder.eq_fault (h : AgreeUnder p st (.fault f) y) : y = .fault f := by cases h; rfl

theorem AgreeUnder.ne_refused (h : AgreeUnder p st x y) : x ≠ .refused r := by rintro rfl; cases h

/-! ### The shared operations -/

theorem AgreeUnder.ite {c : Prop} [Decidable c] (h₁ : AgreeUnder p st x y) (h₂ : AgreeUnder p st x' y') :
    AgreeUnder p st (if c then x else x') (if c then y else y') := by
  split
  · exact h₁
  · exact h₂

theorem memRead_agree {a : Word} {k k' : Byte → State → Result} (h : ∀ v s, AgreeUnder p st (k v s) (k' v (s.under p st))) :
    AgreeUnder p st (memRead s a k) (memRead (s.under p st) a k') := by
  cases hr : s.bus.read a with
  | byte v bus =>
    rw [memRead_of_byte hr, memRead_of_byte (s := s.under p st) hr]
    exact h v (s.setBus bus)
  | fail info bus =>
    rw [memRead_of_fail hr, memRead_of_fail (s := s.under p st) hr]
    exact .fault _

theorem memWrite_agree {a : Word} {v : Byte} {k k' : State → Result} (h : ∀ s, AgreeUnder p st (k s) (k' (s.under p st))) :
    AgreeUnder p st (memWrite s a v k) (memWrite (s.under p st) a v k') := by
  cases hw : s.bus.write a v with
  | done bus =>
    rw [memWrite_of_done hw, memWrite_of_done (s := s.under p st) hw]
    exact h (s.setBus bus)
  | fail info bus =>
    rw [memWrite_of_fail hw, memWrite_of_fail (s := s.under p st) hw]
    exact .fault _

theorem read8_agree {o : Opd8} {k k' : Byte → State → Result} (h : ∀ v s, AgreeUnder p st (k v s) (k' v (s.under p st))) :
    AgreeUnder p st (read8 s o k) (read8 (s.under p st) o k') := by
  cases o with
  | reg q => exact h (s.reg q) s
  | atHL => exact memRead_agree h

theorem write8_agree {o : Opd8} {v : Byte} {k k' : State → Result} (h : ∀ s, AgreeUnder p st (k s) (k' (s.under p st))) :
    AgreeUnder p st (write8 s o v k) (write8 (s.under p st) o v k') := by
  cases o with
  | reg q => exact h (s.setReg q v)
  | atHL => exact memWrite_agree h

theorem push16_agree {w : Word} {k k' : State → Result} (h : ∀ s, AgreeUnder p st (k s) (k' (s.under p st))) :
    AgreeUnder p st (push16 s w k) (push16 (s.under p st) w k') := by
  rw [push16_eq, push16_eq]
  exact memWrite_agree (s := s.setSp (s.sp - 1)) fun s₁ => memWrite_agree (s := s₁.setSp (s₁.sp - 1)) h

theorem pop16_agree {k k' : Word → State → Result} (h : ∀ w s, AgreeUnder p st (k w s) (k' w (s.under p st))) :
    AgreeUnder p st (pop16 s k) (pop16 (s.under p st) k') :=
  memRead_agree fun _ s₁ => memRead_agree (s := s₁.setSp (s₁.sp + 1)) fun _ s₂ => h _ (s₂.setSp (s₂.sp + 1))

/-! ### The meanings with a data access -/

theorem aluOperand_agree (op : AluOp) (o : Opd8) :
    AgreeUnder p st (aluOperand op o s) (aluOperand op o (s.under p st)) :=
  read8_agree fun _ _ => .next _

theorem incOperand_agree (o : Opd8) : AgreeUnder p st (incOperand o s) (incOperand o (s.under p st)) :=
  read8_agree fun _ _ => write8_agree fun _ => .next _

theorem decOperand_agree (o : Opd8) : AgreeUnder p st (decOperand o s) (decOperand o (s.under p st)) :=
  read8_agree fun _ _ => write8_agree fun _ => .next _

theorem loadFrom_agree (q : Reg8) (a len : Word) :
    AgreeUnder p st (loadFrom q a len s) (loadFrom q a len (s.under p st)) :=
  memRead_agree fun _ _ => .next _

theorem storeTo_agree (a : Word) (v : Byte) (len : Word) :
    AgreeUnder p st (storeTo a v len s) (storeTo a v len (s.under p st)) :=
  memWrite_agree fun _ => .next _

theorem loadAndStep_agree (delta : Word) : AgreeUnder p st (loadAndStep delta s) (loadAndStep delta (s.under p st)) := by
  simp only [loadAndStep, State.pair_under]
  exact memRead_agree fun _ _ => .next _

theorem storeAndStep_agree (delta : Word) : AgreeUnder p st (storeAndStep delta s) (storeAndStep delta (s.under p st)) := by
  simp only [storeAndStep, State.pair_under]
  exact memWrite_agree fun _ => .next _

theorem storeSp_agree (a : Word) : AgreeUnder p st (storeSp a s) (storeSp a (s.under p st)) :=
  memWrite_agree fun _ => memWrite_agree fun _ => .next _

theorem rotateOperand_agree (op : RotOp) (o : Opd8) :
    AgreeUnder p st (rotateOperand op o s) (rotateOperand op o (s.under p st)) :=
  read8_agree fun _ _ => write8_agree fun _ => .next _

theorem testBit_agree (b : Fin 8) (o : Opd8) : AgreeUnder p st (testBit b o s) (testBit b o (s.under p st)) :=
  read8_agree fun _ _ => .next _

theorem resetBit_agree (b : Fin 8) (o : Opd8) : AgreeUnder p st (resetBit b o s) (resetBit b o (s.under p st)) :=
  read8_agree fun _ _ => write8_agree fun _ => .next _

theorem setBit_agree (b : Fin 8) (o : Opd8) : AgreeUnder p st (setBit b o s) (setBit b o (s.under p st)) :=
  read8_agree fun _ _ => write8_agree fun _ => .next _

theorem runExtended_agree (b : Byte) : AgreeUnder p st (runExtended b s) (runExtended b (s.under p st)) := by
  unfold runExtended
  dsimp only
  split
  · exact rotateOperand_agree _ _
  · exact testBit_agree _ _
  · exact resetBit_agree _ _
  · exact setBit_agree _ _

theorem pushPair_agree (q : Pair) : AgreeUnder p st (pushPair q s) (pushPair q (s.under p st)) := by
  rw [pushPair, pushPair, State.pair_under]
  exact push16_agree fun _ => .next _

theorem popPair_agree (q : Pair) : AgreeUnder p st (popPair q s) (popPair q (s.under p st)) :=
  pop16_agree fun w s => by
    rw [State.setPair_under]
    exact .next _

theorem callTo_agree (target ret : Word) : AgreeUnder p st (callTo target ret s) (callTo target ret (s.under p st)) :=
  push16_agree fun _ => .next _

theorem returnFrom_agree : AgreeUnder p st (returnFrom s) (returnFrom (s.under p st)) := pop16_agree fun _ _ => .next _

end Sys2Proof.Machine

namespace Sys2Proof

open Machine

section

variable {i : Instr} {f : Form} {s t : State} {p : Params} {st : RunStatus}

/-- The shapes of the tier-X instructions (rule R241). -/
def Form.alwaysRefuses : Form → Bool
  | .halt | .stop | .ei | .reti => true
  | _ => false

theorem Instr.alwaysRefuses_form (i : Instr) : i.form.alwaysRefuses = (i.tier == .x) := by
  cases i <;> rfl

theorem Form.body_refused (h : f.alwaysRefuses = true) (s : State) : ∃ r, f.body s = .refused r := by
  cases f with
  | halt | stop | ei | reti => exact ⟨_, rfl⟩
  | _ => cases h

/-- Behind the gate the parameters and the run status decide nothing (rules R4, R6). -/
theorem Form.body_agree (h : f.alwaysRefuses = false) : AgreeUnder p st (f.body s) (f.body (s.under p st)) := by
  cases f with
  | alu => exact aluOperand_agree _ _
  | inc => exact incOperand_agree _
  | dec => exact decOperand_agree _
  | rotate => exact rotateOperand_agree _ _
  | bit => exact testBit_agree _ _
  | res => exact resetBit_agree _ _
  | set => exact setBit_agree _ _
  | extended => exact runExtended_agree _
  | loadFromHl => exact loadFrom_agree _ _ _
  | storeToHl | storeImm => exact storeTo_agree _ _ _
  | loadA m => cases m <;> exact loadFrom_agree _ _ _
  | storeA m => cases m <;> exact storeTo_agree _ _ _
  | loadAStep => exact loadAndStep_agree _
  | storeAStep => exact storeAndStep_agree _
  | storeSp => exact storeSp_agree _
  | push => exact pushPair_agree _
  | pop => exact popPair_agree _
  | call | restart => exact callTo_agree _ _
  | ret => exact returnFrom_agree
  | jumpIf | jumpRelIf => exact .ite (.next _) (.next _)
  | callIf => exact .ite (callTo_agree _ _) (.next _)
  | retIf => exact .ite returnFrom_agree (.next _)
  | incWide rr | decWide rr | addHl rr => cases rr <;> exact .next _
  | loadWord q => cases q <;> exact .next _
  | aluImm | ccf | scf | cpl | rotateA | jump | jumpRel | jumpHl | load | loadImm | nop | di | daa | loadSp | loadSpHl
  | addSp | loadHlSp => exact .next _
  | undefined => exact .fault _
  | halt | stop | ei | reti => cases h

/-- A tier-S instruction agrees with itself under any parameters and run status: it has no gate (rules R4, R240). -/
theorem exec_agree_of_tierS (h : i.tier = .s) (s : State) (p : Params) (st : RunStatus) :
    AgreeUnder p st (exec i s) (exec i (s.under p st)) := by
  rw [exec_of_admitted (.inl h), exec_of_admitted (.inl h)]
  exact Form.body_agree (by rw [Instr.alwaysRefuses_form, h]; rfl)

/-- An instruction that ends Ok keeps the parameters and the run status: with those it started from put in their place its
next state is the same. -/
theorem exec_keeps_params_status (h : exec i s = .next t) : t.params = s.params ∧ t.status = s.status := by
  have hb : i.form.body s = .next t := exec_eq_next h
  have hx : i.form.alwaysRefuses = false := by
    by_contra hx
    obtain ⟨r, hr⟩ := Form.body_refused (Bool.eq_true_of_not_eq_false hx) s
    cases hr.symm.trans hb
  have ha : AgreeUnder s.params s.status (i.form.body s) (i.form.body (s.under s.params s.status)) :=
    Form.body_agree hx
  rw [State.under_self, hb] at ha
  have ht : t = t.under s.params s.status := Host.Outcome.next.inj ha.eq_next
  rw [ht]
  exact ⟨State.under_params .., State.under_status ..⟩

end

/-- Settles O26: a stopped step answers the same state, and a fetch that goes through hands an instruction on with at most
the bus changed. -/
theorem stepKeepsParametersAndStatus : Obligations.StepKeepsParametersAndStatus := by
  unfold Obligations.StepKeepsParametersAndStatus
  intro s t h
  unfold step at h
  split at h
  · cases h
    exact ⟨rfl, rfl⟩
  · rcases fetch_cases s exec with ⟨i, bus, -, -, -, e⟩ | ⟨a, info, bus, -, -, e⟩
    · exact exec_keeps_params_status (s := s.setBus bus) (e.symm.trans h)
    · cases e.symm.trans h

/-- Settles O36: a tier-S instruction agrees with itself under the new parameters and the run status it has, which its next
state keeps. -/
theorem tierSIgnoresTheParameters : Obligations.TierSIgnoresTheParameters := by
  unfold Obligations.TierSIgnoresTheParameters
  intro i s p hi
  have ha : AgreeUnder p s.status (exec i s) (exec i { s with params := p }) := exec_agree_of_tierS hi s p s.status
  refine ⟨fun t h => ?_, fun f h => ?_, fun r => ha.ne_refused⟩
  · obtain ⟨-, hst⟩ := exec_keeps_params_status h
    rw [h] at ha
    rw [ha.eq_next, ← hst]
    rfl
  · rw [h] at ha
    exact ha.eq_fault

end Sys2Proof
end

section
/-! The register file (spec/10_state.md): the flags codec, the pair views and the reset state. -/

namespace Sys2Proof.Machine

/-- Rule R20: the weights of the four flags in F. -/
theorem Flags.toNat_encode (f : Flags) :
    f.encode.toNat = 128 * f.z.toNat + 64 * f.n.toNat + 32 * f.h.toNat + 16 * f.c.toNat := by
  obtain ⟨z, n, h, c⟩ := f
  revert z n h c
  decide

/-- Rule R21: decoding undoes encoding. -/
@[simp] theorem Flags.decode_encode (f : Flags) : Flags.decode f.encode = f := by
  obtain ⟨z, n, h, c⟩ := f
  revert z n h c
  decide

/-- Rule R21 the other way: encoding a decoded byte loses its low nibble. -/
theorem Flags.encode_decode (b : Byte) : (Flags.decode b).encode = b &&& 0xF0 := by
  revert b
  decide

/-- A word with its low nibble cleared, by its halves. -/
theorem joinBytes_and_lowNibble (w : Word) : joinBytes (hi8 w) (lo8 w &&& 0xF0) = w &&& 0xFFF0 := by
  calc joinBytes (hi8 w) (lo8 w &&& 0xF0)
      = joinBytes (hi8 w &&& BitVec.allOnes 8) (lo8 w &&& 0xF0) := by rw [BitVec.and_allOnes]
    _ = joinBytes (hi8 w) (lo8 w) &&& joinBytes (BitVec.allOnes 8) 0xF0 := BitVec.and_append.symm
    _ = w &&& 0xFFF0 := by rw [joinBytes_hi8_lo8]; rfl

/-- Rule R24: a pair of two registers reads as the word written to it. -/
theorem State.pair_setPair_of_ne (s : State) {p : Pair} (w : Word) (h : p ≠ .af) : (s.setPair p w).pair p = w := by
  cases p with
  | bc | de | hl => exact joinBytes_hi8_lo8 w
  | af => exact absurd rfl h

/-- Rule R25: AF reads as the word written to it but for the low nibble, which F does not hold. -/
theorem State.pair_setPair_af (s : State) (w : Word) : (s.setPair .af w).pair .af = w &&& 0xFFF0 :=
  calc (s.setPair .af w).pair .af
      = joinBytes (hi8 w) (Flags.decode (lo8 w)).encode := rfl
    _ = w &&& 0xFFF0 := by rw [Flags.encode_decode, joinBytes_and_lowNibble]

end Sys2Proof.Machine

namespace Sys2Proof

open Machine

/-- Settles O7, from the codec's three rules. -/
theorem flagsCodecRoundTrips : Obligations.FlagsCodecRoundTrips := by
  unfold Obligations.FlagsCodecRoundTrips
  exact ⟨Flags.toNat_encode, fun _ => rfl, Flags.decode_encode⟩

/-- Settles O8: a pair is its two halves joined, and a joined word gives its halves back. -/
theorem pairViewsReadTheirHalves : Obligations.PairViewsReadTheirHalves := by
  unfold Obligations.PairViewsReadTheirHalves
  refine ⟨fun s => ?_, fun s w => ⟨rfl, rfl, rfl, rfl⟩, fun s p w => s.pair_setPair_of_ne w⟩
  exact ⟨toNat_joinBytes .., toNat_joinBytes .., toNat_joinBytes .., toNat_joinBytes ..⟩

/-- Settles O9: F keeps the high nibble of the byte it is decoded from. -/
theorem afAndTheFlagsCodecDropTheLowNibble : Obligations.AfAndTheFlagsCodecDropTheLowNibble := by
  unfold Obligations.AfAndTheFlagsCodecDropTheLowNibble
  exact ⟨Flags.encode_decode, State.pair_setPair_af⟩

/-- Settles O11: the reset input builds the register file from the parameters and the bus alone. -/
theorem resetClearsTheRegisterFile : Obligations.ResetClearsTheRegisterFile := by
  unfold Obligations.ResetClearsTheRegisterFile
  exact fun _ => rfl

/-- Settles O12: the RAM of the reset state lists nothing, so it is canonical and every byte reads as the blank one. -/
theorem resetStateIsSound : Obligations.ResetStateIsSound := by
  unfold Obligations.ResetStateIsSound
  exact ⟨rfl, ⟨rfl, rfl⟩, rfl, rfl, rfl, fun _ => rfl⟩

end Sys2Proof
end

section
/-! The frame of the register file (spec/10_state.md, the tables after rules R18 and R22, and rule R28).  A `Footprint`
says which 8-bit registers, which flags and whether SP may change; `Within` says of an answer that at most those did.
Each update of the state and each access has one rule, and `Form.body_within` puts the rules together for every shape. -/

namespace Sys2Proof

/-- What of the register file, PC aside, may change: the registers listed, the flags marked, and SP. -/
structure Footprint where
  regs : List Reg8
  flags : Machine.Flags
  sp : Bool

/-- What a shape may change, by the tables of Safety.lean. -/
def Form.footprint (f : Form) : Footprint where
  regs := f.regsWritten
  flags := f.flagsWritten
  sp := f.writesSp

end Sys2Proof

namespace Sys2Proof.Machine

/-- The flags not marked in `w` are equal. -/
structure Flags.SameOutside (w f g : Flags) : Prop where
  z : w.z = false → g.z = f.z
  n : w.n = false → g.n = f.n
  h : w.h = false → g.h = f.h
  c : w.c = false → g.c = f.c

/-- `t` has the registers, flags and SP of `s` outside the footprint. -/
structure State.SameOutside (fp : Footprint) (s t : State) : Prop where
  reg : ∀ r ∉ fp.regs, t.reg r = s.reg r
  flags : Flags.SameOutside fp.flags s.flags t.flags
  sp : fp.sp = false → t.sp = s.sp

/-- A next state changes at most what the footprint names of the register file of `s`. -/
def Within (fp : Footprint) (s : State) (x : Result) : Prop := ∀ t, x = .next t → s.SameOutside fp t

variable {fp : Footprint} {s t : State} {x y : Result}

/-! ### Flags -/

theorem Flags.SameOutside.refl (w f : Flags) : w.SameOutside f f :=
  ⟨fun _ => rfl, fun _ => rfl, fun _ => rfl, fun _ => rfl⟩

theorem Flags.SameOutside.all (f g : Flags) : Flags.SameOutside ⟨true, true, true, true⟩ f g :=
  ⟨nofun, nofun, nofun, nofun⟩

/-- Flags that take C over from `f` differ at most in the other three; likewise `butZ`, `butN`, `butZC`. -/
theorem Flags.SameOutside.butC (f : Flags) (z n h : Bool) :
    Flags.SameOutside ⟨true, true, true, false⟩ f ⟨z, n, h, f.c⟩ := ⟨nofun, nofun, nofun, fun _ => rfl⟩

theorem Flags.SameOutside.butZ (f : Flags) (n h c : Bool) :
    Flags.SameOutside ⟨false, true, true, true⟩ f ⟨f.z, n, h, c⟩ := ⟨fun _ => rfl, nofun, nofun, nofun⟩

theorem Flags.SameOutside.butN (f : Flags) (z h c : Bool) :
    Flags.SameOutside ⟨true, false, true, true⟩ f ⟨z, f.n, h, c⟩ := ⟨nofun, fun _ => rfl, nofun, nofun⟩

theorem Flags.SameOutside.butZC (f : Flags) (n h : Bool) :
    Flags.SameOutside ⟨false, true, true, false⟩ f ⟨f.z, n, h, f.c⟩ := ⟨fun _ => rfl, nofun, nofun, fun _ => rfl⟩

theorem Flags.SameOutside.trans {w f g k : Flags} (h₁ : w.SameOutside f g) (h₂ : w.SameOutside g k) :
    w.SameOutside f k where
  z hw := (h₂.z hw).trans (h₁.z hw)
  n hw := (h₂.n hw).trans (h₁.n hw)
  h hw := (h₂.h hw).trans (h₁.h hw)
  c hw := (h₂.c hw).trans (h₁.c hw)

/-- Writing a pair writes the flags only where it is AF (rule R25). -/
theorem flagsPopped_sameOutside (p : Pair) (s : State) (w : Word) :
    p.flagsPopped.SameOutside s.flags (s.setPair p w).flags := by
  cases p with
  | bc | de | hl => exact .refl ..
  | af => exact .all ..

/-! ### Updates of the state -/

theorem State.SameOutside.refl (fp : Footprint) (s : State) : s.SameOutside fp s :=
  ⟨fun _ _ => rfl, .refl .., fun _ => rfl⟩

theorem State.SameOutside.setBus (h : s.SameOutside fp t) (bus : Bus) : s.SameOutside fp (t.setBus bus) :=
  ⟨h.reg, h.flags, h.sp⟩

theorem State.SameOutside.setPc (h : s.SameOutside fp t) (w : Word) : s.SameOutside fp (t.setPc w) :=
  ⟨h.reg, h.flags, h.sp⟩

theorem State.SameOutside.setSp (h : s.SameOutside fp t) (hsp : fp.sp = true) (w : Word) :
    s.SameOutside fp (t.setSp w) :=
  ⟨h.reg, h.flags, fun hn => absurd (hsp.symm.trans hn) nofun⟩

theorem State.SameOutside.setFlags {g : Flags} (h : s.SameOutside fp t) (hg : fp.flags.SameOutside t.flags g) :
    s.SameOutside fp (t.setFlags g) :=
  ⟨h.reg, h.flags.trans hg, h.sp⟩

theorem State.SameOutside.setReg {r : Reg8} (h : s.SameOutside fp t) (hr : r ∈ fp.regs) (v : Byte) :
    s.SameOutside fp (t.setReg r v) where
  reg q hq := (t.reg_setReg_ne v (ne_of_mem_of_not_mem hr hq).symm).trans (h.reg q hq)
  flags := h.flags
  sp := h.sp

/-- Writing a pair writes its halves, and the flags with AF (rules R24, R25). -/
theorem State.SameOutside.setPair {p : Pair} (h : s.SameOutside fp t) (hp : p.halves ⊆ fp.regs) {w : Word}
    (hf : fp.flags.SameOutside t.flags (t.setPair p w).flags) : s.SameOutside fp (t.setPair p w) := by
  cases p with
  | bc | de | hl => exact (h.setReg (hp (by decide)) _).setReg (hp (by decide)) _
  | af => exact (h.setReg (hp (by decide)) _).setFlags hf

/-! ### Answers -/

theorem Within.next (h : s.SameOutside fp t) : Within fp s (.next t) := fun _ e => Host.Outcome.next.inj e ▸ h

theorem Within.fault (f : Fault) : Within fp s (.fault f) := fun _ e => by cases e

theorem Within.refused (r : Refusal) : Within fp s (.refused r) := fun _ e => by cases e

theorem Within.advance (h : s.SameOutside fp t) (len : Word) : Within fp s (advance len t) := .next (h.setPc _)

theorem Within.ite {c : Prop} [Decidable c] (hx : Within fp s x) (hy : Within fp s y) :
    Within fp s (if c then x else y) := by
  split
  · exact hx
  · exact hy

theorem memRead_within {a : Word} {k : Byte → State → Result} (h : s.SameOutside fp t)
    (hk : ∀ v t, s.SameOutside fp t → Within fp s (k v t)) : Within fp s (memRead t a k) := by
  intro u e
  obtain ⟨v, bus, -, e⟩ := memRead_eq_next e
  exact hk v _ (h.setBus bus) u e

theorem memWrite_within {a : Word} {v : Byte} {k : State → Result} (h : s.SameOutside fp t)
    (hk : ∀ t, s.SameOutside fp t → Within fp s (k t)) : Within fp s (memWrite t a v k) := by
  intro u e
  obtain ⟨bus, -, e⟩ := memWrite_eq_next e
  exact hk _ (h.setBus bus) u e

theorem read8_within {o : Opd8} {k : Byte → State → Result} (h : s.SameOutside fp t)
    (hk : ∀ v t, s.SameOutside fp t → Within fp s (k v t)) : Within fp s (read8 t o k) := by
  cases o with
  | reg q => exact hk _ t h
  | atHL => exact memRead_within h hk

theorem write8_within {o : Opd8} {v : Byte} {k : State → Result} (h : s.SameOutside fp t) (ho : o.regs ⊆ fp.regs)
    (hk : ∀ t, s.SameOutside fp t → Within fp s (k t)) : Within fp s (write8 t o v k) := by
  cases o with
  | reg q => exact hk _ (h.setReg (ho (List.mem_singleton_self q)) v)
  | atHL => exact memWrite_within h hk

theorem push16_within {w : Word} {k : State → Result} (h : s.SameOutside fp t) (hsp : fp.sp = true)
    (hk : ∀ t, s.SameOutside fp t → Within fp s (k t)) : Within fp s (push16 t w k) := by
  rw [push16_eq]
  exact memWrite_within (h.setSp hsp _) fun _ h => memWrite_within (h.setSp hsp _) hk

theorem pop16_within {k : Word → State → Result} (h : s.SameOutside fp t) (hsp : fp.sp = true)
    (hk : ∀ w t, s.SameOutside fp t → Within fp s (k w t)) : Within fp s (pop16 t k) :=
  memRead_within h fun _ _ h => memRead_within (h.setSp hsp _) fun _ _ h => hk _ _ (h.setSp hsp _)

/-- An accumulator operation writes the flags and, but for CP, A (rules R120 to R127). -/
theorem aluApply_within {op : AluOp} {v : Byte} {len : Word} (h : s.SameOutside fp t) (ha : op.regsWritten ⊆ fp.regs)
    (hf : fp.flags = ⟨true, true, true, true⟩) : Within fp s (aluApply op v len t) := by
  unfold aluApply
  refine .advance (.setFlags ?_ (hf ▸ .all ..)) len
  cases op with
  | cp => exact h
  | _ => exact h.setReg (ha (List.mem_singleton_self _)) _

/-- A 16-bit operand other than SP is a pair; SP is none of the registers. -/
theorem State.SameOutside.setWide {rr : Reg16} (h : s.SameOutside fp t) (hr : rr.halves ⊆ fp.regs)
    (hsp : rr.isSp = true → fp.sp = true) (w : Word) : s.SameOutside fp (t.setWide rr w) := by
  cases rr with
  | bc => exact h.setPair (p := .bc) hr (.refl ..)
  | de => exact h.setPair (p := .de) hr (.refl ..)
  | hl => exact h.setPair (p := .hl) hr (.refl ..)
  | sp => exact h.setSp (hsp rfl) w

/-! ### The meanings -/

theorem aluOperand_within (op : AluOp) (o : Opd8) : Within (Form.alu op o).footprint s (aluOperand op o s) :=
  read8_within (.refl ..) fun _ _ h => aluApply_within h (List.Subset.refl _) rfl

theorem incOperand_within (o : Opd8) : Within (Form.inc o).footprint s (incOperand o s) :=
  read8_within (.refl ..) fun _ _ h => write8_within h (List.Subset.refl _) fun _ h =>
    .advance (h.setFlags (.butC ..)) _

theorem decOperand_within (o : Opd8) : Within (Form.dec o).footprint s (decOperand o s) :=
  read8_within (.refl ..) fun _ _ h => write8_within h (List.Subset.refl _) fun _ h =>
    .advance (h.setFlags (.butC ..)) _

theorem incWide_within (rr : Reg16) : Within (Form.incWide rr).footprint s (incWide rr s) :=
  .advance (.setWide (.refl ..) (List.Subset.refl _) id _) _

theorem decWide_within (rr : Reg16) : Within (Form.decWide rr).footprint s (decWide rr s) :=
  .advance (.setWide (.refl ..) (List.Subset.refl _) id _) _

theorem addHl_within (rr : Reg16) : Within (Form.addHl rr).footprint s (addHl rr s) :=
  have h : s.SameOutside (Form.addHl rr).footprint (s.setPair .hl (s.pair .hl + s.wide rr)) :=
    .setPair (.refl ..) (List.Subset.refl _) (.refl ..)
  .advance (h.setFlags (.butZ ..)) _

theorem complementCarry_within : Within Form.ccf.footprint s (complementCarry s) :=
  .advance (.setFlags (.refl ..) (.butZ ..)) _

theorem setCarry_within : Within Form.scf.footprint s (setCarry s) :=
  .advance (.setFlags (.refl ..) (.butZ ..)) _

theorem complementA_within : Within Form.cpl.footprint s (complementA s) :=
  .advance (.setFlags (.setReg (.refl ..) (List.mem_singleton_self _) _) (.butZC ..)) _

theorem rotateA_within (op : RotOp) : Within (Form.rotateA op).footprint s (rotateA op s) :=
  .advance (.setFlags (.setReg (.refl ..) (List.mem_singleton_self _) _) (.all ..)) _

theorem decimalAdjust_within : Within Form.daa.footprint s (decimalAdjust s) :=
  .advance (.setFlags (.setReg (.refl ..) (List.mem_singleton_self _) _) (.butN ..)) _

theorem rotateOperand_within (op : RotOp) (o : Opd8) : Within (Form.rotate op o).footprint s (rotateOperand op o s) :=
  read8_within (.refl ..) fun _ _ h => write8_within h (List.Subset.refl _) fun _ h => .advance (h.setFlags (.all ..)) _

theorem testBit_within (b : Fin 8) (o : Opd8) : Within (Form.bit b o).footprint s (testBit b o s) :=
  read8_within (.refl ..) fun _ _ h => .advance (h.setFlags (.butC ..)) _

theorem resetBit_within (b : Fin 8) (o : Opd8) : Within (Form.res b o).footprint s (resetBit b o s) :=
  read8_within (.refl ..) fun _ _ h => write8_within h (List.Subset.refl _) fun _ h => .advance h _

theorem setBit_within (b : Fin 8) (o : Opd8) : Within (Form.set b o).footprint s (setBit b o s) :=
  read8_within (.refl ..) fun _ _ h => write8_within h (List.Subset.refl _) fun _ h => .advance h _

theorem loadFrom_within {r : Reg8} (hr : r ∈ fp.regs) (a len : Word) : Within fp s (loadFrom r a len s) :=
  memRead_within (.refl ..) fun _ _ h => .advance (h.setReg hr _) _

theorem storeTo_within (a : Word) (v : Byte) (len : Word) : Within fp s (storeTo a v len s) :=
  memWrite_within (.refl ..) fun _ h => .advance h _

theorem loadWord_within (q : WordPair) (w : Word) :
    Within (Form.loadWord q w).footprint s (loadWord (wordPair q) w s) := by
  refine .advance (.setPair (.refl ..) (List.Subset.refl _) ?_) _
  cases q with
  | bc | de | hl => exact .refl ..

theorem loadAndStep_within (d : HlStep) (delta : Word) :
    Within (Form.loadAStep d).footprint s (loadAndStep delta s) :=
  memRead_within (.refl ..) fun _ _ h =>
    .advance ((h.setReg List.mem_cons_self _).setPair (List.subset_cons_self _ _) (.refl ..)) _

theorem storeAndStep_within (d : HlStep) (delta : Word) :
    Within (Form.storeAStep d).footprint s (storeAndStep delta s) :=
  memWrite_within (.refl ..) fun _ h => .advance (h.setPair (List.Subset.refl _) (.refl ..)) _

theorem storeSp_within (a : Word) : Within fp s (storeSp a s) :=
  memWrite_within (.refl ..) fun _ h => memWrite_within h fun _ h => .advance h _

theorem addToSp_within (e : Byte) : Within (Form.addSp e).footprint s (addToSp e s) :=
  .advance (.setFlags (.setSp (.refl ..) rfl _) (.all ..)) _

theorem loadHlSpPlus_within (e : Byte) : Within (Form.loadHlSp e).footprint s (loadHlSpPlus e s) :=
  .advance (.setFlags (.setPair (.refl ..) (List.Subset.refl _) (.refl ..)) (.all ..)) _

theorem pushPair_within (p : Pair) : Within (Form.push p).footprint s (pushPair p s) :=
  push16_within (.refl ..) rfl fun _ h => .advance h _

theorem popPair_within (p : Pair) : Within (Form.pop p).footprint s (popPair p s) :=
  pop16_within (.refl ..) rfl fun w t h =>
    .advance (h.setPair (List.Subset.refl _) (flagsPopped_sameOutside p t w)) _

theorem jumpIf_within (cc : Cond) (target : Word) : Within fp s (jumpIf cc target s) :=
  .ite (.next (.setPc (.refl ..) _)) (.advance (.refl ..) _)

theorem jumpRelIf_within (cc : Cond) (e : Byte) : Within fp s (jumpRelIf cc e s) :=
  .ite (.next (.setPc (.refl ..) _)) (.advance (.refl ..) _)

theorem callTo_within (hsp : fp.sp = true) (target ret : Word) : Within fp s (callTo target ret s) :=
  push16_within (.refl ..) hsp fun _ h => .next (h.setPc _)

theorem callIf_within (hsp : fp.sp = true) (cc : Cond) (target : Word) : Within fp s (callIf cc target s) :=
  .ite (callTo_within hsp _ _) (.advance (.refl ..) _)

theorem returnFrom_within (hsp : fp.sp = true) : Within fp s (returnFrom s) :=
  pop16_within (.refl ..) hsp fun _ _ h => .next (h.setPc _)

theorem returnIf_within (hsp : fp.sp = true) (cc : Cond) : Within fp s (returnIf cc s) :=
  .ite (returnFrom_within hsp) (.advance (.refl ..) _)

end Sys2Proof.Machine

namespace Sys2Proof

open Machine

section

variable {f : Form} {i : Instr} {s t : State}

/-! ### The extended space -/

/-- The shape the fields x, y, z of the second byte select (rule R77). -/
def extendedForm (b : Byte) : Form :=
  let y : Fin 8 := (b.extractLsb' 3 3).toFin
  let r := Opd8.ofCode (b.extractLsb' 0 3).toNat
  match (b.extractLsb' 6 2).toNat with
  | 0 => .rotate (RotOp.ofCode y.val) r
  | 1 => .bit y r
  | 2 => .res y r
  | _ => .set y r

/-- The rows of the extended map have the shapes of their fields. -/
theorem decodeExtended_form (b : Byte) : (decodeExtended b).form = extendedForm b := by
  revert b
  decide

theorem extendedForm_ne_extended (b c : Byte) : extendedForm b ≠ .extended c := by
  unfold extendedForm
  dsimp only
  split <;> nofun

/-- The row `prefixCB` runs as the shape of its second byte. -/
theorem runExtended_eq_body (b : Byte) (s : State) : runExtended b s = (extendedForm b).body s := by
  unfold runExtended extendedForm
  dsimp only
  generalize (b.extractLsb' 6 2).toNat = x
  obtain _ | _ | _ | x := x <;> rfl

/-- No instruction has the shape of `prefixCB` once that row is read as the row of its second byte. -/
theorem Instr.shape_ne_extended (i : Instr) (c : Byte) : i.shape ≠ .extended c := by
  cases i with
  | prefixCB b =>
    rw [Instr.shape_prefixCB, decodeExtended_form]
    exact extendedForm_ne_extended b c
  | _ => nofun

/-- Reading `prefixCB` as the row of its second byte changes nothing of what it does. -/
theorem Instr.shape_body (i : Instr) (s : State) : i.shape.body s = i.form.body s := by
  cases i with
  | prefixCB b =>
    rw [Instr.shape_prefixCB, decodeExtended_form]
    exact (runExtended_eq_body b s).symm
  | _ => rfl

/-- `exec_eq_next` for the shape. -/
theorem exec_eq_next_shape (h : exec i s = .next t) : i.shape.body s = .next t :=
  (i.shape_body s).trans (exec_eq_next h)

/-! ### The frame -/

/-- Every shape stays within its footprint. -/
theorem Form.body_within (h : ∀ b, f ≠ .extended b) : Within f.footprint s (f.body s) := by
  cases f with
  | alu => exact aluOperand_within _ _
  | aluImm => exact aluApply_within (.refl ..) (List.Subset.refl _) rfl
  | inc => exact incOperand_within _
  | dec => exact decOperand_within _
  | incWide rr => exact incWide_within rr
  | decWide rr => exact decWide_within rr
  | addHl rr => exact addHl_within rr
  | ccf => exact complementCarry_within
  | scf => exact setCarry_within
  | cpl => exact complementA_within
  | rotateA => exact rotateA_within _
  | rotate => exact rotateOperand_within _ _
  | bit => exact testBit_within _ _
  | res => exact resetBit_within _ _
  | set => exact setBit_within _ _
  | load | loadImm => exact .advance (.setReg (.refl ..) (List.mem_singleton_self _) _) _
  | loadFromHl | loadA => exact loadFrom_within (List.mem_singleton_self _) _ _
  | storeToHl | storeImm | storeA => exact storeTo_within _ _ _
  | loadWord q w => exact loadWord_within q w
  | loadAStep => exact loadAndStep_within _ _
  | storeAStep => exact storeAndStep_within _ _
  | daa => exact decimalAdjust_within
  | nop | di => exact .advance (.refl ..) _
  | storeSp => exact storeSp_within _
  | loadSp | loadSpHl => exact .advance (.setSp (.refl ..) rfl _) _
  | addSp => exact addToSp_within _
  | loadHlSp => exact loadHlSpPlus_within _
  | push => exact pushPair_within _
  | pop => exact popPair_within _
  | jump | jumpRel | jumpHl => exact .next (.setPc (.refl ..) _)
  | jumpIf => exact jumpIf_within _ _
  | jumpRelIf => exact jumpRelIf_within _ _
  | call | restart => exact callTo_within rfl _ _
  | callIf => exact callIf_within rfl _ _
  | ret => exact returnFrom_within rfl
  | retIf => exact returnIf_within rfl _
  | halt | stop | ei | reti => exact .refused _
  | undefined => exact .fault _
  | extended b => exact absurd rfl (h b)

/-- The frame of the register file, for every instruction that ends Ok. -/
theorem exec_sameOutside (h : exec i s = .next t) : s.SameOutside i.shape.footprint t :=
  Form.body_within (Instr.shape_ne_extended i) t (exec_eq_next_shape h)

/-- In tier S only INC SP and DEC SP write SP (rule R28). -/
theorem Instr.shape_writesSp_of_tierS (ht : i.tier = .s) (h₁ : i ≠ .inc_SP) (h₂ : i ≠ .dec_SP) :
    i.shape.writesSp = false := by
  cases i <;> first | rfl | cases ht; done | exact absurd rfl h₁ | exact absurd rfl h₂

end

/-- Settles O32: the registers and SP are two parts of the frame of the register file. -/
theorem otherRegistersAreUnchanged : Obligations.OtherRegistersAreUnchanged := by
  unfold Obligations.OtherRegistersAreUnchanged
  intro i s t h
  have hs := exec_sameOutside h
  exact ⟨hs.reg, hs.sp⟩

/-- Settles O33: the flags are the third part of that frame. -/
theorem otherFlagsAreUnchanged : Obligations.OtherFlagsAreUnchanged := by
  unfold Obligations.OtherFlagsAreUnchanged
  intro i s t h
  have hf := (exec_sameOutside h).flags
  exact ⟨hf.z, hf.n, hf.h, hf.c⟩

/-- Settles O34: no other tier-S shape has SP in its footprint. -/
theorem tierSKeepsSpButForIncAndDec : Obligations.TierSKeepsSpButForIncAndDec := by
  unfold Obligations.TierSKeepsSpButForIncAndDec
  intro i s t ht h₁ h₂ h
  exact (exec_sameOutside h).sp (Instr.shape_writesSp_of_tierS ht h₁ h₂)

end Sys2Proof
end

section
/-! The data accesses of an instruction (spec/20_memory.md rules R49, R51, R52, R57).  `Issues W n bus x` says how the
answer `x` comes of the accesses issued on `bus`; each shared operation has one rule, and `Form.body_issues` puts the rules
together for every shape.  What an instruction does to the bus and the memory follows by induction on the accesses. -/

namespace Sys2Proof.Machine

/-- The answer comes of `n` accesses on `bus`, the writes among them to the addresses `W` in that order: a next state where
all of them are served, else the failure of the first that is not. -/
inductive Issues : List Word → Nat → Bus → Result → Prop
  | next {t : State} {bus : Bus} (h : t.bus = bus) : Issues [] 0 bus (.next t)
  | read {W : List Word} {n : Nat} {bus bus' : Bus} {a : Word} {v : Byte} {x : Result}
      (h : bus.read a = .byte v bus') (hx : Issues W n bus' x) : Issues W (n + 1) bus x
  | write {W : List Word} {n : Nat} {bus bus' : Bus} {a : Word} {v : Byte} {x : Result}
      (h : bus.write a v = .done bus') (hx : Issues W n bus' x) : Issues (a :: W) (n + 1) bus x
  | readFails {W : List Word} {n info : Nat} {bus bus' : Bus} {a : Word} (h : bus.read a = .fail info bus') :
      Issues W (n + 1) bus (.fault (.busFailure .read a none info bus'))
  | writeFails {W : List Word} {n info : Nat} {bus bus' : Bus} {a : Word} {v : Byte}
      (h : bus.write a v = .fail info bus') :
      Issues (a :: W) (n + 1) bus (.fault (.busFailure .write a (some v) info bus'))

/-- The answer is a refusal or a decode failure, with the bus as it was: no access has been issued. -/
inductive StopsAtOnce (bus : Bus) : Result → Prop
  | tierX (a : Word) (bytes : List Byte) (m : String) : StopsAtOnce bus (.refused (.tierX a bytes m bus))
  | tierG (a : Word) (bytes : List Byte) (m : String) : StopsAtOnce bus (.refused (.tierG a bytes m bus))
  | decodeFailure (a : Word) (b : Byte) : StopsAtOnce bus (.fault (.decodeFailure a b bus))

/-- The bus an answer to a step at `s` leaves (rule R101). -/
def busLeft (s : State) : Result → Bus
  | .next t => t.bus
  | .fault f => f.bus
  | .refused r => r.bus s

variable {W : List Word} {n : Nat} {bus : Bus} {x : Result} {s t : State}

/-- A step request leaves the bus of the step's answer. -/
theorem State.request_bus (s : State) : s.request.bus = busLeft s (step s) := by
  unfold State.request
  cases step s <;> rfl

/-! ### What follows from the accesses -/

theorem StopsAtOnce.busLeft_eq (h : StopsAtOnce bus x) (s : State) : busLeft s x = bus := by cases h <;> rfl

theorem StopsAtOnce.ne_next (h : StopsAtOnce bus x) : x ≠ .next t := by rintro rfl; cases h

theorem StopsAtOnce.ne_busFailure (h : StopsAtOnce bus x) (k : Access) (a : Word) (v : Option Byte) (info : Nat)
    (bus' : Bus) : x ≠ .fault (.busFailure k a v info bus') := by
  rintro rfl
  cases h

/-- Accesses keep the canonical form, failing ones included. -/
theorem Issues.busLeft_wf (h : Issues W n bus x) (hw : Memory.wf bus.cells = true) (s : State) :
    Memory.wf (busLeft s x).cells = true := by
  induction h with
  | next h => subst h; exact hw
  | read h _ ih => exact ih ((Bus.read_byte h).1 ▸ hw)
  | write h _ ih => exact ih (Bus.write_keeps_wf h hw)
  | readFails h => exact (Bus.read_fail h).1 ▸ hw
  | writeFails h => exact (Bus.write_fail h).1 ▸ hw

/-- Accesses leave every byte outside the addresses written alone, failing ones included. -/
theorem Issues.peek_busLeft (h : Issues W n bus x) {b : Word} (hb : b ∉ W) (s : State) :
    (busLeft s x).peek b = bus.peek b := by
  induction h with
  | next h => exact h ▸ rfl
  | read h _ ih => exact (ih hb).trans (Bus.read_peek h b)
  | write h _ ih =>
    obtain ⟨hne, hW⟩ := List.ne_and_not_mem_of_not_mem_cons hb
    exact (ih hW).trans (Bus.write_peek_ne h hne)
  | readFails h => exact congrArg (Memory.peek · b.toNat) (Bus.read_fail h).1
  | writeFails h => exact congrArg (Memory.peek · b.toNat) (Bus.write_fail h).1

/-- The flat RAM serves every access and stays the flat RAM (rule R51). -/
theorem Issues.next_of_flat (h : Issues W n bus x) (hf : bus.FlatRam) : ∃ t, x = .next t ∧ t.FlatRam := by
  induction h with
  | next h => subst h; exact ⟨_, rfl, hf⟩
  | read h _ ih => exact ih (Bus.read_keeps_flat h hf)
  | write h _ ih => exact ih (Bus.write_keeps_flat h hf)
  | readFails h => exact absurd hf (Bus.read_fail h).2.2
  | writeFails h => exact absurd hf (Bus.write_fail h).2.2

/-- Each access uses up one scripted answer. -/
theorem Issues.script_eq_drop (h : Issues W n bus x) (hx : x = .next t) : t.bus.script = bus.script.drop n := by
  induction h with
  | next h => cases hx; rw [h, List.drop_zero]
  | read h _ ih => rw [ih hx, (Bus.read_byte h).2, List.drop_tail]
  | write h _ ih => rw [ih hx, (Bus.write_done h).2, List.drop_tail]
  | readFails => cases hx
  | writeFails => cases hx

/-! ### The shared operations -/

theorem advance_issues (h : t.bus = bus) (len : Word) : Issues [] 0 bus (advance len t) := .next h

theorem memRead_issues {a : Word} {k : Byte → State → Result} (hk : ∀ v bus, Issues W n bus (k v (s.setBus bus))) :
    Issues W (n + 1) s.bus (memRead s a k) := by
  cases h : s.bus.read a with
  | byte v bus => exact memRead_of_byte (k := k) h ▸ .read h (hk v bus)
  | fail info bus => exact memRead_of_fail (k := k) h ▸ .readFails h

theorem memWrite_issues {a : Word} {v : Byte} {k : State → Result} (hk : ∀ bus, Issues W n bus (k (s.setBus bus))) :
    Issues (a :: W) (n + 1) s.bus (memWrite s a v k) := by
  cases h : s.bus.write a v with
  | done bus => exact memWrite_of_done (k := k) h ▸ .write h (hk bus)
  | fail info bus => exact memWrite_of_fail (k := k) h ▸ .writeFails h

theorem read8_issues {r : Opd8} {k : Byte → State → Result} (hk : ∀ v bus, Issues [] 0 bus (k v (s.setBus bus))) :
    Issues [] r.accesses s.bus (read8 s r k) := by
  cases r with
  | reg q => exact hk (s.reg q) s.bus
  | atHL => exact memRead_issues hk

/-- A read of an operand and then a write to it: two accesses for `(HL)`, to one address. -/
theorem readModifyWrite_issues {r : Opd8} {g : Byte → State → Byte} {k : Byte → State → State → Result}
    (hk : ∀ v s₁ s₂, Issues [] 0 s₂.bus (k v s₁ s₂)) :
    Issues (r.storesAt s) (2 * r.accesses) s.bus (read8 s r fun v s₁ => write8 s₁ r (g v s₁) (k v s₁)) := by
  cases r with
  | reg q => exact hk (s.reg q) s (s.setReg q _)
  | atHL =>
    exact memRead_issues (k := fun v s₁ => write8 s₁ .atHL (g v s₁) (k v s₁)) fun v bus =>
      memWrite_issues (s := s.setBus bus) fun bus' => hk v (s.setBus bus) (s.setBus bus')

theorem push16_issues {w : Word} {k : State → Result}
    (hk : ∀ bus, Issues [] 0 bus (k ((s.setSp (s.sp - 1 - 1)).setBus bus))) :
    Issues [s.sp - 1, s.sp - 2] 2 s.bus (push16 s w k) := by
  have hsp : s.sp - 2 = s.sp - 1 - 1 := by rw [BitVec.sub_sub]; rfl
  rw [push16_eq, hsp]
  exact memWrite_issues (s := s.setSp (s.sp - 1)) fun bus =>
    memWrite_issues (s := (s.setSp (s.sp - 1 - 1)).setBus bus) hk

theorem pop16_issues {k : Word → State → Result}
    (hk : ∀ w bus, Issues [] 0 bus (k w ((s.setSp (s.sp + 1 + 1)).setBus bus))) :
    Issues [] 2 s.bus (pop16 s k) :=
  memRead_issues fun _ bus => memRead_issues (s := (s.setSp (s.sp + 1)).setBus bus) fun _ => hk _

/-! ### The meanings with a data access -/

theorem aluOperand_issues (op : AluOp) (r : Opd8) : Issues [] r.accesses s.bus (aluOperand op r s) :=
  read8_issues fun _ _ => .next rfl

theorem testBit_issues (b : Fin 8) (r : Opd8) : Issues [] r.accesses s.bus (testBit b r s) :=
  read8_issues fun _ _ => .next rfl

theorem incOperand_issues (r : Opd8) : Issues (r.storesAt s) (2 * r.accesses) s.bus (incOperand r s) :=
  readModifyWrite_issues fun _ _ _ => .next rfl

theorem decOperand_issues (r : Opd8) : Issues (r.storesAt s) (2 * r.accesses) s.bus (decOperand r s) :=
  readModifyWrite_issues fun _ _ _ => .next rfl

theorem rotateOperand_issues (op : RotOp) (r : Opd8) :
    Issues (r.storesAt s) (2 * r.accesses) s.bus (rotateOperand op r s) :=
  readModifyWrite_issues fun _ _ _ => .next rfl

theorem resetBit_issues (b : Fin 8) (r : Opd8) : Issues (r.storesAt s) (2 * r.accesses) s.bus (resetBit b r s) :=
  readModifyWrite_issues fun _ _ _ => .next rfl

theorem setBit_issues (b : Fin 8) (r : Opd8) : Issues (r.storesAt s) (2 * r.accesses) s.bus (setBit b r s) :=
  readModifyWrite_issues fun _ _ _ => .next rfl

theorem loadFrom_issues (r : Reg8) (a len : Word) : Issues [] 1 s.bus (loadFrom r a len s) :=
  memRead_issues fun _ _ => .next rfl

theorem storeTo_issues (a : Word) (v : Byte) (len : Word) : Issues [a] 1 s.bus (storeTo a v len s) :=
  memWrite_issues fun _ => .next rfl

theorem loadAndStep_issues (delta : Word) : Issues [] 1 s.bus (loadAndStep delta s) := by
  unfold loadAndStep
  exact memRead_issues fun _ _ => .next rfl

theorem storeAndStep_issues (delta : Word) : Issues [s.pair .hl] 1 s.bus (storeAndStep delta s) := by
  unfold storeAndStep
  exact memWrite_issues fun _ => .next rfl

theorem storeSp_issues (a : Word) : Issues [a, a + 1] 2 s.bus (storeSp a s) :=
  memWrite_issues fun bus => memWrite_issues (s := s.setBus bus) fun _ => .next rfl

theorem pushPair_issues (p : Pair) : Issues [s.sp - 1, s.sp - 2] 2 s.bus (pushPair p s) :=
  push16_issues fun _ => .next rfl

theorem popPair_issues (p : Pair) : Issues [] 2 s.bus (popPair p s) :=
  pop16_issues fun _ _ => advance_issues (by simp) 1

theorem callTo_issues (target ret : Word) : Issues [s.sp - 1, s.sp - 2] 2 s.bus (callTo target ret s) :=
  push16_issues fun _ => .next rfl

theorem returnFrom_issues : Issues [] 2 s.bus (returnFrom s) := pop16_issues fun _ _ => .next rfl

/-- A conditional call issues the accesses of the call where it is taken, and none where it is not; likewise a return. -/
theorem callIf_issues (cc : Cond) (w : Word) :
    Issues (if condHolds s.flags cc then [s.sp - 1, s.sp - 2] else []) (if condHolds s.flags cc then 2 else 0) s.bus
      (callIf cc w s) := by
  unfold callIf
  split_ifs
  · exact callTo_issues w _
  · exact advance_issues rfl 3

theorem returnIf_issues (cc : Cond) :
    Issues [] (if condHolds s.flags cc then 2 else 0) s.bus (returnIf cc s) := by
  unfold returnIf
  split_ifs
  · exact returnFrom_issues
  · exact advance_issues rfl 1

theorem jumpIf_issues (cc : Cond) (w : Word) : Issues [] 0 s.bus (jumpIf cc w s) := by
  unfold jumpIf
  split <;> exact .next rfl

theorem jumpRelIf_issues (cc : Cond) (e : Byte) : Issues [] 0 s.bus (jumpRelIf cc e s) := by
  unfold jumpRelIf
  split <;> exact .next rfl

end Sys2Proof.Machine

namespace Sys2Proof

open Machine

section

variable {f : Form} {i : Instr} {s t : State}

/-! ### Every instruction -/

/-- The shapes of the five rows that always stop: HALT, STOP, EI, RETI and the undefined bytes (rules R79, R241). -/
def Form.alwaysStops : Form → Bool
  | .halt | .stop | .ei | .reti | .undefined _ => true
  | _ => false

theorem Form.body_stopsAtOnce (h : f.alwaysStops = true) (s : State) : StopsAtOnce s.bus (f.body s) := by
  cases f with
  | halt | stop | ei | reti => exact .tierX ..
  | undefined b => exact .decodeFailure ..
  | _ => cases h

/-- Every other shape issues the accesses the tables of Safety.lean say, and stores to the addresses they say. -/
theorem Form.body_issues (h : f.alwaysStops = false) (hx : ∀ b, f ≠ .extended b) (s : State) :
    Issues (f.storesAt s) (f.accesses s.flags) s.bus (f.body s) := by
  cases f with
  | alu => exact aluOperand_issues _ _
  | bit => exact testBit_issues _ _
  | inc => exact incOperand_issues _
  | dec => exact decOperand_issues _
  | rotate => exact rotateOperand_issues _ _
  | res => exact resetBit_issues _ _
  | set => exact setBit_issues _ _
  | loadFromHl | loadA => exact loadFrom_issues _ _ _
  | storeToHl | storeImm | storeA => exact storeTo_issues _ _ _
  | loadAStep => exact loadAndStep_issues _
  | storeAStep => exact storeAndStep_issues _
  | storeSp => exact storeSp_issues _
  | push => exact pushPair_issues _
  | pop => exact popPair_issues _
  | call | restart => exact callTo_issues _ _
  | callIf => exact callIf_issues _ _
  | ret => exact returnFrom_issues
  | retIf => exact returnIf_issues _
  | jumpIf => exact jumpIf_issues _ _
  | jumpRelIf => exact jumpRelIf_issues _ _
  | incWide rr | decWide rr => exact advance_issues (s.setWide_bus rr _) 1
  | loadWord q w => exact advance_issues (s.setPair_bus (wordPair q) w) 3
  | aluImm | addHl | ccf | scf | cpl | rotateA | jump | jumpRel | jumpHl | load | loadImm | nop | di | daa | loadSp
  | loadSpHl | addSp | loadHlSp => exact .next rfl
  | halt | stop | ei | reti | undefined => cases h
  | extended b => exact absurd rfl (hx b)

theorem extendedForm_alwaysStops (b : Byte) : (extendedForm b).alwaysStops = false := by
  unfold extendedForm
  dsimp only
  split <;> rfl

theorem Instr.shape_alwaysStops (i : Instr) : i.shape.alwaysStops = (i.tier == .x || i.tier == .u) := by
  cases i with
  | prefixCB b => rw [Instr.shape_prefixCB, decodeExtended_form, extendedForm_alwaysStops]; rfl
  | _ => rfl

/-- An instruction that executes, the row `prefixCB` included, issues the accesses of its shape. -/
theorem exec_issues (h : Admitted i s ∨ ∃ b, i = .prefixCB b) :
    Issues (i.shape.storesAt s) (i.shape.accesses s.flags) s.bus (exec i s) := by
  have he : exec i s = i.shape.body s ∧ i.shape.alwaysStops = false := by
    rw [Instr.shape_alwaysStops, Instr.shape_body]
    rcases h with h | ⟨b, rfl⟩
    · refine ⟨exec_of_admitted h, ?_⟩
      rcases h with h | ⟨h, -⟩ <;> rw [h] <;> rfl
    · exact ⟨rfl, rfl⟩
  rw [he.1]
  exact Form.body_issues he.2 (Instr.shape_ne_extended i) s

/-- Everything an instruction can do to the bus: its accesses, or a stop before any of them. -/
theorem exec_bus_cases (i : Instr) (s : State) :
    Issues (i.shape.storesAt s) (i.shape.accesses s.flags) s.bus (exec i s) ∨ StopsAtOnce s.bus (exec i s) := by
  rcases exec_shape i s with ⟨-, e⟩ | ⟨hg, m, e⟩
  · rw [e, ← Instr.shape_body]
    cases hs : i.shape.alwaysStops with
    | true => exact .inr (Form.body_stopsAtOnce hs s)
    | false => exact .inl (Form.body_issues hs (Instr.shape_ne_extended i) s)
  · cases hk : s.params.gkOps with
    | refuse => exact .inr (e.trans (gated_of_refuse hk) ▸ .tierG ..)
    | admitG => exact .inl (exec_issues (.inl (.inr ⟨hg, hk⟩)))

/-- An instruction that ends Ok has issued the accesses of its shape. -/
theorem issues_of_exec_eq_next (h : exec i s = .next t) :
    Issues (i.shape.storesAt s) (i.shape.accesses s.flags) s.bus (.next t) := by
  rcases exec_bus_cases i s with hi | hi
  · exact h ▸ hi
  · exact absurd h hi.ne_next

/-! ### A step -/

theorem step_of_stopped {o : StopOutcome} (h : s.status = .stopped o) : step s = .next s := by
  simp [step, h]

theorem step_of_running (h : s.status = .running) : step s = fetch s exec := by
  simp [step, h]

/-- Everything a step can do: it is stopped, it runs the instruction fetched, over a bus whose RAM is untouched, or a read
of an instruction byte fails. -/
theorem step_cases (s : State) :
    step s = .next s ∨
    (∃ i bus, bus.cells = s.bus.cells ∧ (s.FlatRam → bus = s.bus) ∧ step s = exec i (s.setBus bus)) ∨
    (∃ a info bus, bus.cells = s.bus.cells ∧ ¬ s.FlatRam ∧ step s = .fault (.busFailure .read a none info bus)) := by
  cases hs : s.status with
  | stopped o => exact .inl (step_of_stopped hs)
  | running =>
    rw [step_of_running hs]
    rcases fetch_cases s exec with ⟨i, bus, -, hc, hf, e⟩ | ⟨a, info, bus, hc, hf, e⟩
    · exact .inr (.inl ⟨i, bus, hc, hf, e⟩)
    · exact .inr (.inr ⟨a, info, bus, hc, hf, e⟩)

/-- The bus a step leaves is canonical again, however the step ends. -/
theorem step_keeps_wf (hw : s.Inv) : Memory.wf (busLeft s (step s)).cells = true := by
  rcases step_cases s with e | ⟨i, bus, hc, -, e⟩ | ⟨a, info, bus, hc, -, e⟩ <;> rw [e]
  · exact hw
  · have hw' : Memory.wf bus.cells = true := hc ▸ hw
    rcases exec_bus_cases i (s.setBus bus) with h | h
    · exact h.busLeft_wf hw' s
    · rw [h.busLeft_eq]
      exact hw'
  · exact hc ▸ hw

/-- On the flat RAM no step fails on the bus, and the bus stays the flat RAM (rule R51). -/
theorem step_flat (hf : s.FlatRam) :
    (∀ k a v info bus, step s ≠ .fault (.busFailure k a v info bus)) ∧ (busLeft s (step s)).FlatRam := by
  rcases step_cases s with e | ⟨i, bus, -, hb, e⟩ | ⟨a, info, bus, -, hn, -⟩
  · rw [e]
    exact ⟨nofun, hf⟩
  · rw [e, hb hf, State.setBus_self]
    rcases exec_bus_cases i s with h | h
    · obtain ⟨t, ht, htf⟩ := h.next_of_flat hf
      rw [ht]
      exact ⟨nofun, htf⟩
    · exact ⟨h.ne_busFailure, h.busLeft_eq s ▸ hf⟩
  · exact absurd hf hn

end

/-- Settles O25: a step leaves the bus of its fetch and its accesses, and each of them keeps the canonical form. -/
theorem stepKeepsTheMemoryCanonical : Obligations.StepKeepsTheMemoryCanonical := by
  unfold Obligations.StepKeepsTheMemoryCanonical
  intro s hw
  have hb : Memory.wf (busLeft s (step s)).cells = true := step_keeps_wf hw
  refine ⟨fun t ht => ?_, ?_⟩
  · rw [ht] at hb
    exact hb
  · rw [State.Inv, State.request_bus]
    exact hb

/-- Settles O27: only a failing access is a bus failure, and the flat RAM fails none. -/
theorem flatRamNeverFails : Obligations.FlatRamNeverFails := by
  unfold Obligations.FlatRamNeverFails
  intro s hf
  rw [State.FlatRam, State.request_bus]
  exact step_flat hf

/-- Settles O28: the flat RAM serves all the accesses of an instruction that executes. -/
theorem admittedInstructionsCompleteOnFlatRam : Obligations.AdmittedInstructionsCompleteOnFlatRam := by
  unfold Obligations.AdmittedInstructionsCompleteOnFlatRam
  intro i s hf h
  obtain ⟨t, ht, htf⟩ := (exec_issues h).next_of_flat hf
  exact ⟨t, ht, htf, exec_keeps_params_status ht⟩

/-- Settles O29: every access uses up one answer. -/
theorem instructionsIssueExactlyTheirAccesses : Obligations.InstructionsIssueExactlyTheirAccesses := by
  unfold Obligations.InstructionsIssueExactlyTheirAccesses
  intro i s t h
  exact (issues_of_exec_eq_next h).script_eq_drop rfl

/-- Settles O31: only a write changes a byte, and only at its address. -/
theorem memoryOutsideTheStoreIsUnchanged : Obligations.MemoryOutsideTheStoreIsUnchanged := by
  unfold Obligations.MemoryOutsideTheStoreIsUnchanged
  intro i s t h a ha
  exact (issues_of_exec_eq_next h).peek_busLeft ha s

end Sys2Proof
end

section
/-! The fetch of an instruction (spec/20_memory.md rules R51, R55, R57, R64; spec/30_encoding.md rule R80): which reads it
makes for each kind of first byte, and that on the bytes of an instruction it hands that instruction on. -/

namespace Sys2Proof

/-- Decoding the bytes of an instruction, whatever follows them, gives it back (rule R80). -/
theorem decode_encode_append {i : Instr} (h : i.wellFormed = true) (rest : List Byte) :
    decode (encode i ++ rest) = .instr i rest := by
  cases i with
  | undefined b =>
    have hb : b ∈ undefinedBytes := List.contains_iff_mem.mp h
    simp only [undefinedBytes, List.mem_cons, List.not_mem_nil, or_false] at hb
    rcases hb with rfl | rfl | rfl | rfl | rfl | rfl | rfl | rfl | rfl | rfl | rfl <;> rfl
  | prefixCB second => cases h
  | ld_BC_d16 w | ld_DE_d16 w | ld_HL_d16 w | ld_SP_d16 w | ld_at_a16_SP w | ld_at_a16_A w | ld_A_at_a16 w | jp_a16 w
  | jp_NZ_a16 w | jp_Z_a16 w | jp_NC_a16 w | jp_C_a16 w | call_a16 w | call_NZ_a16 w | call_Z_a16 w | call_NC_a16 w
  | call_C_a16 w => exact congrArg (Decoded.instr · rest) (congrArg _ (joinBytes_hi8_lo8 w))
  | _ => rfl

/-- The first byte says the tier of the base row (rules R4, R78). -/
theorem tier_decodeBase {b0 : Byte} (hp : b0 ≠ prefixByte) (lo hi : Byte) : (decodeBase b0 lo hi).tier = byteTier b0 := by
  suffices h : ∀ n : Fin 256, (.ofFin n : Byte) ≠ prefixByte → (decodeBase (.ofFin n) lo hi).tier = byteTier (.ofFin n) from
    h b0.toFin hp
  intro n hn
  fin_cases n <;> first | rfl | exact absurd rfl hn

theorem operandCount_le_two (b0 : Byte) : operandCount b0 ≤ 2 := by
  unfold operandCount
  split_ifs <;> omega

theorem ne_prefixByte_of_operandCount {b0 : Byte} (h : operandCount b0 ≠ 0) : b0 ≠ prefixByte := by
  rintro rfl
  exact h rfl

end Sys2Proof

namespace Sys2Proof.Machine

variable {s t : State} {i : Instr} {b0 : Byte} {bus : Bus} {bytes : List Byte} {w : Word}

/-! ### The reads of a fetch, by the first byte -/

theorem fetch_of_prefixByte (h : s.bus.read s.pc = .byte prefixByte bus) (k : Instr → State → Result) :
    fetch s k = memRead (s.setBus bus) (s.pc + 1) fun b1 s => k (decodeExtended b1) s := by
  rw [fetch, memRead_of_byte h, if_pos rfl]
  rfl

section

variable (h : s.bus.read s.pc = .byte b0 bus) (hg : byteTier b0 = .g → s.params.gkOps = .admitG)
  (k : Instr → State → Result)

include h hg

theorem fetch_of_noOperand (hp : b0 ≠ prefixByte) (hc : operandCount b0 = 0) :
    fetch s k = k (decodeBase b0 0 0) (s.setBus bus) := by
  rw [fetch, memRead_of_byte h, if_neg hp, State.setBus_params, operandsFetched_eq hg, hc]
  rfl

theorem fetch_of_oneOperand (hc : operandCount b0 = 1) :
    fetch s k = memRead (s.setBus bus) (s.pc + 1) fun lo s => k (decodeBase b0 lo 0) s := by
  have hp : b0 ≠ prefixByte := ne_prefixByte_of_operandCount (by omega)
  rw [fetch, memRead_of_byte h, if_neg hp, State.setBus_params, operandsFetched_eq hg, hc]
  rfl

theorem fetch_of_twoOperands (hc : operandCount b0 = 2) :
    fetch s k = memRead (s.setBus bus) (s.pc + 1) fun lo s =>
      memRead s (s.pc + 2) fun hi s => k (decodeBase b0 lo hi) s := by
  have hp : b0 ≠ prefixByte := ne_prefixByte_of_operandCount (by omega)
  rw [fetch, memRead_of_byte h, if_neg hp, State.setBus_params, operandsFetched_eq hg, hc]
  rfl

end

/-- Where the bytes read decode to an instruction that is not refused, the fetch hands it on, with no read but of them. -/
theorem fetch_of_readsBytes (hd : decode bytes = .instr i []) (hg : i.tier = .g → s.params.gkOps = .admitG)
    (hr : s.bus.ReadsBytes s.pc bytes bus) (k : Instr → State → Result) : fetch s k = k i (s.setBus bus) := by
  obtain _ | ⟨b0, rest⟩ := bytes
  · cases hd
  obtain ⟨bus₀, h₀, hr⟩ := hr
  by_cases hp : b0 = prefixByte
  · subst hp
    obtain _ | ⟨b1, rest⟩ := rest
    · cases hd
    obtain ⟨bus₁, h₁, hr⟩ := hr
    cases hd
    cases hr
    rw [fetch_of_prefixByte h₀]
    exact memRead_of_byte (s := s.setBus bus₀) h₁
  have hg' : ∀ {lo hi : Byte}, decodeBase b0 lo hi = i → byteTier b0 = .g → s.params.gkOps = .admitG := fun e hb =>
    hg (e ▸ (tier_decodeBase hp _ _).trans hb)
  have hle : operandCount b0 ≤ 2 := operandCount_le_two b0
  simp only [decode, if_neg hp] at hd
  obtain hc | hc | hc : operandCount b0 = 0 ∨ operandCount b0 = 1 ∨ operandCount b0 = 2 := by omega
  · rw [hc] at hd
    cases hd
    cases hr
    exact fetch_of_noOperand h₀ (hg' rfl) k hp hc
  · rw [hc] at hd
    obtain _ | ⟨lo, rest⟩ := rest
    · cases hd
    obtain ⟨bus₁, h₁, hr⟩ := hr
    cases hd
    cases hr
    rw [fetch_of_oneOperand h₀ (hg' rfl) k hc]
    exact memRead_of_byte (s := s.setBus bus₀) h₁
  · rw [hc] at hd
    obtain _ | ⟨lo, _ | ⟨hi, rest⟩⟩ := rest
    · cases hd
    · cases hd
    obtain ⟨bus₁, h₁, bus₂, h₂, hr⟩ := hr
    cases hd
    cases hr
    rw [fetch_of_twoOperands h₀ (hg' rfl) k hc, memRead_of_byte (s := s.setBus bus₀) h₁]
    rw [BitVec.add_assoc] at h₂
    exact memRead_of_byte (s := s.setBus bus₁) h₂

/-- A step over the bytes of an instruction that is not refused is its exec (rules R57, R100). -/
theorem step_of_readsBytes (hs : s.status = .running) (hi : i.wellFormed = true)
    (hg : i.tier = .g → s.params.gkOps = .admitG) (hr : s.bus.ReadsBytes s.pc (encode i) bus) :
    step s = exec i (s.setBus bus) := by
  have hd : decode (encode i) = .instr i [] := by
    simpa using decode_encode_append hi []
  rw [step_of_running hs]
  exact fetch_of_readsBytes hd hg hr exec

/-- On the flat RAM `LD (a16),A` stores A and goes on after its three bytes (rules R51, R215). -/
theorem exec_storeAbs_of_flat (hf : s.FlatRam) (w : Word) :
    exec (.ld_at_a16_A w) s = .next ((s.setBus (s.bus.poke w s.regs.a)).setPc (s.pc + 3)) :=
  memWrite_of_done (Bus.write_flat hf w s.regs.a)

end Sys2Proof.Machine

namespace Sys2Proof

open Machine

/-- Settles O13: on the flat RAM a read is `peek` and a write is `poke`, whose laws are the memory's. -/
theorem flatRamKeepsWhatIsWritten : Obligations.FlatRamKeepsWhatIsWritten := by
  unfold Obligations.FlatRamKeepsWhatIsWritten
  intro bus a v hf hw
  have hf' : (bus.poke a v).FlatRam := hf
  refine ⟨Bus.read_flat hf, bus.poke a v, Bus.write_flat hf a v, hf', Bus.poke_keeps_wf hw a v, ?_, fun b hb => ?_⟩
  · rw [Bus.read_flat hf', Bus.peek_poke_same hw]
  · rw [Bus.read_flat hf', Bus.peek_poke_ne bus hb]

/-- Settles O14: the fetch reads the byte the store left. -/
theorem storedOpcodeIsFetched : Obligations.StoredOpcodeIsFetched := by
  unfold Obligations.StoredOpcodeIsFetched
  intro s t w i hf hw hs hi ht he hx
  rw [exec_storeAbs_of_flat hf] at hx
  cases hx
  have hr : (s.bus.poke w s.regs.a).read w = .byte s.regs.a (s.bus.poke w s.regs.a) := by
    rw [Bus.read_flat (bus := s.bus.poke w s.regs.a) hf, Bus.peek_poke_same hw]
  refine step_of_readsBytes (bus := s.bus.poke w s.regs.a) hs hi (fun hg => ?_) (he ▸ ⟨_, hr, rfl⟩)
  rw [ht] at hg
  cases hg

/-- Settles O16: the bytes of an instruction decode to it, so the fetch hands it on. -/
theorem stepReadsTheInstructionBytesInOrder : Obligations.StepReadsTheInstructionBytesInOrder := by
  unfold Obligations.StepReadsTheInstructionBytesInOrder
  exact fun _ _ _ => step_of_readsBytes

/-- Settles O21: each clause is the fetch of that kind of first byte, up to the read that fails. -/
theorem failingFetchEndsTheStep : Obligations.FailingFetchEndsTheStep := by
  unfold Obligations.FailingFetchEndsTheStep
  intro s info bus hs
  rw [step_of_running hs]
  refine ⟨fun h => memRead_of_fail h, fun b0 bus₁ h₀ h₁ hb => ?_, fun b0 b1 bus₁ bus₂ h₀ h₁ h₂ hc hg => ?_⟩
  · have hf : ∀ k : Byte → State → Result,
        memRead (s.setBus bus₁) (s.pc + 1) k = .fault (.busFailure .read (s.pc + 1) none info bus) := fun _ =>
      memRead_of_fail (s := s.setBus bus₁) h₁
    rcases hb with rfl | ⟨hc, hg⟩
    · rw [fetch_of_prefixByte h₀, hf]
    · have hle : operandCount b0 ≤ 2 := operandCount_le_two b0
      obtain hc | hc : operandCount b0 = 1 ∨ operandCount b0 = 2 := by omega
      · rw [fetch_of_oneOperand h₀ hg exec hc, hf]
      · rw [fetch_of_twoOperands h₀ hg exec hc, hf]
  · rw [fetch_of_twoOperands h₀ hg exec hc, memRead_of_byte (s := s.setBus bus₁) h₁]
    exact memRead_of_fail (s := s.setBus bus₂) h₂

end Sys2Proof
end

section
/-! The opcode maps both ways (spec/30_encoding.md rules R72, R77 to R81).  `RowBytes own i` says that the bytes `own` are a
row of the maps and `i` the instruction the row gives: what the decoder answers is such a row, and the encoder writes its
bytes.  After it, a step by the tier of its first byte. -/

namespace Sys2Proof

/-- `own` is a row of the opcode maps: 0xCB and its second byte (rule R77), or an opcode byte and as many operand
bytes as it takes (rules R73, R78); `i` is the instruction of that row. -/
inductive RowBytes : List Byte → Instr → Prop
  | extended (b1 : Byte) : RowBytes [prefixByte, b1] (decodeExtended b1)
  | noOperand {b0 : Byte} (hp : b0 ≠ prefixByte) (hc : operandCount b0 = 0) : RowBytes [b0] (decodeBase b0 0 0)
  | oneOperand {b0 : Byte} (lo : Byte) (hc : operandCount b0 = 1) : RowBytes [b0, lo] (decodeBase b0 lo 0)
  | twoOperands {b0 : Byte} (lo hi : Byte) (hc : operandCount b0 = 2) : RowBytes [b0, lo, hi] (decodeBase b0 lo hi)

variable {i : Instr} {bytes own rest : List Byte} {b0 : Byte}

/-- What the decoder answers is a row and the bytes after it. -/
theorem rowBytes_of_decode (h : decode bytes = .instr i rest) : ∃ own, RowBytes own i ∧ bytes = own ++ rest := by
  obtain _ | ⟨b0, tail⟩ := bytes
  · cases h
  by_cases hp : b0 = prefixByte
  · subst hp
    obtain _ | ⟨b1, tail⟩ := tail <;> cases h
    exact ⟨_, .extended b1, rfl⟩
  have hle : operandCount b0 ≤ 2 := operandCount_le_two b0
  simp only [decode, if_neg hp] at h
  obtain hc | hc | hc : operandCount b0 = 0 ∨ operandCount b0 = 1 ∨ operandCount b0 = 2 := by omega
  · rw [hc] at h
    cases h
    exact ⟨_, .noOperand hp hc, rfl⟩
  · rw [hc] at h
    obtain _ | ⟨lo, tail⟩ := tail <;> cases h
    exact ⟨_, .oneOperand lo hc, rfl⟩
  · rw [hc] at h
    obtain _ | ⟨lo, _ | ⟨hi, tail⟩⟩ := tail <;> cases h
    exact ⟨_, .twoOperands lo hi hc, rfl⟩

/-- The bytes of a well-formed instruction are the row it decodes from. -/
theorem rowBytes_encode (h : i.wellFormed = true) : RowBytes (encode i) i := by
  obtain ⟨own, hr, e⟩ := rowBytes_of_decode (decode_encode_append h [])
  rw [List.append_cancel_right e]
  exact hr

/-! ### The encoder on a row -/

theorem mem_twoOperandBytes_of_operandCount (h : operandCount b0 = 2) : b0 ∈ twoOperandBytes := by
  unfold operandCount at h
  split_ifs at h with h₂ h₁
  · exact h₂
  · cases h

theorem mem_oneOperandByte_of_operandCount (h : operandCount b0 = 1) : b0 ∈ oneOperandByte := by
  unfold operandCount at h
  split_ifs at h with h₂ h₁
  · cases h
  · exact h₁

theorem wellFormed_encode_decodeExtended (b1 : Byte) :
    (decodeExtended b1).wellFormed = true ∧ encode (decodeExtended b1) = [prefixByte, b1] := by
  revert b1
  decide

/-- The rows without an operand, the undefined bytes among them. -/
theorem wellFormed_encode_decodeBase_of_noOperand (hp : b0 ≠ prefixByte) (hc : operandCount b0 = 0) :
    (decodeBase b0 0 0).wellFormed = true ∧ encode (decodeBase b0 0 0) = [b0] := by
  revert b0
  decide

theorem wellFormed_encode_decodeBase_of_oneOperand (lo : Byte) (hc : operandCount b0 = 1) :
    (decodeBase b0 lo 0).wellFormed = true ∧ encode (decodeBase b0 lo 0) = [b0, lo] := by
  have hm : b0 ∈ oneOperandByte := mem_oneOperandByte_of_operandCount hc
  unfold oneOperandByte at hm
  fin_cases hm <;> exact ⟨rfl, rfl⟩

/-- The rows with a 16-bit operand, which is written low byte first (rule R73). -/
theorem wellFormed_encode_decodeBase_of_twoOperands (lo hi : Byte) (hc : operandCount b0 = 2) :
    (decodeBase b0 lo hi).wellFormed = true ∧ encode (decodeBase b0 lo hi) = [b0, lo, hi] := by
  have hm : b0 ∈ twoOperandBytes := mem_twoOperandBytes_of_operandCount hc
  have hw : [b0, lo8 (joinBytes hi lo), hi8 (joinBytes hi lo)] = [b0, lo, hi] := by simp
  rw [← hw]
  unfold twoOperandBytes at hm
  fin_cases hm <;> exact ⟨rfl, rfl⟩

/-- The instruction of a row is well-formed, and its bytes are the row's. -/
theorem RowBytes.encode_eq (h : RowBytes own i) : i.wellFormed = true ∧ encode i = own := by
  cases h with
  | extended b1 => exact wellFormed_encode_decodeExtended b1
  | noOperand hp hc => exact wellFormed_encode_decodeBase_of_noOperand hp hc
  | oneOperand lo hc => exact wellFormed_encode_decodeBase_of_oneOperand lo hc
  | twoOperands lo hi hc => exact wellFormed_encode_decodeBase_of_twoOperands lo hi hc

/-! ### The extended map by its fields -/

theorem tier_decodeExtended (b1 : Byte) : (decodeExtended b1).tier = .s := by
  revert b1
  decide

/-- The row of the extended map that the fields x, y, z of a byte select (rule R77). -/
def extendedRow (b1 : Byte) : Instr :=
  let y : Fin 8 := Fin.ofNat 8 (b1.toNat / 8)
  let r := Opd8.ofCode (b1.toNat % 8)
  match b1.toNat / 64 with
  | 0 => .rotate (RotOp.ofCode y.val) r
  | 1 => .bitTest y r
  | 2 => .bitRes y r
  | _ => .bitSet y r

theorem decodeExtended_eq_extendedRow (b1 : Byte) : decodeExtended b1 = extendedRow b1 := by
  revert b1
  decide

/-! ### The length -/

/-- How many bytes a row has, from its first byte alone (rule R81). -/
def rowLength (b0 : Byte) : Nat := if b0 = prefixByte then 2 else operandCount b0 + 1

theorem rowLength_of_operandCount (h : operandCount b0 ≠ 0) : rowLength b0 = operandCount b0 + 1 :=
  if_neg (ne_prefixByte_of_operandCount h)

theorem RowBytes.length_eq (h : RowBytes own i) : own.length = rowLength (own.headD 0) := by
  cases h with
  | extended b1 => rfl
  | noOperand hp hc => simp [rowLength, hp, hc]
  | oneOperand lo hc | twoOperands lo hi hc =>
    simp [rowLength_of_operandCount, hc]

theorem Instr.length_eq_length_encode (h : i ≠ .stop) : i.length = (encode i).length := by
  unfold Instr.length
  split
  · exact absurd rfl h
  · rfl

/-- The two lists of rule R81, of which the one for length 2 holds the byte of STOP too (rule R266). -/
theorem rowLength_eq (hs : b0 ≠ 0x10) :
    rowLength b0 =
      if b0 ∈ ([0x06, 0x0E, 0x10, 0x16, 0x18, 0x1E, 0x20, 0x26, 0x28, 0x2E, 0x30, 0x36, 0x38, 0x3E, 0xC6, 0xCB,
        0xCE, 0xD6, 0xDE, 0xE0, 0xE6, 0xE8, 0xEE, 0xF0, 0xF6, 0xF8, 0xFE] : List Byte) then 2
      else if b0 ∈ ([0x01, 0x08, 0x11, 0x21, 0x31, 0xC2, 0xC3, 0xC4, 0xCA, 0xCC, 0xCD, 0xD2, 0xD4, 0xDA, 0xDC,
        0xEA, 0xFA] : List Byte) then 3
      else 1 := by
  revert b0
  decide

theorem RowBytes.eq_stop (h : RowBytes own i) (hs : own.headD 0 = 0x10) : i = .stop := by
  cases h with
  | extended => cases hs
  | noOperand | oneOperand | twoOperands =>
    cases hs
    rfl

end Sys2Proof

namespace Sys2Proof.Machine

variable {W : List Word} {n : Nat} {bus : Bus} {x : Result} {s : State} {i : Instr} {b : Byte}

/-! ### A step by the tier of its first byte -/

theorem byteTier_eq_u_iff (b : Byte) : byteTier b = .u ↔ b ∈ undefinedBytes := by
  revert b
  decide

/-- What the fetch can do where the bus gives `b` at PC: it hands on an instruction of the tier of `b` (rules R4, R78), or
a read of a byte after `b` fails. -/
theorem fetch_cases_of_firstByte (h : s.bus.read s.pc = .byte b bus) (k : Instr → State → Result) :
    (∃ i bus', i.tier = byteTier b ∧ fetch s k = k i (s.setBus bus')) ∨
    (∃ a info bus', fetch s k = .fault (.busFailure .read a none info bus')) := by
  by_cases hp : b = prefixByte
  · subst hp
    rw [fetch_of_prefixByte h]
    rcases memRead_cases (s.setBus bus) (s.pc + 1) fun b1 s => k (decodeExtended b1) s with
      ⟨b1, bus₁, -, -, e⟩ | ⟨info, bus₁, -, -, e⟩
    · exact .inl ⟨_, bus₁, tier_decodeExtended b1, e⟩
    · exact .inr ⟨_, info, bus₁, e⟩
  rw [fetch, memRead_of_byte h, if_neg hp]
  split
  · exact .inl ⟨_, bus, tier_decodeBase hp 0 0, rfl⟩
  · rcases memRead_cases (s.setBus bus) (s.pc + 1) fun lo s => k (decodeBase b lo 0) s with
      ⟨lo, bus₁, -, -, e⟩ | ⟨info, bus₁, -, -, e⟩
    · exact .inl ⟨_, bus₁, tier_decodeBase hp lo 0, e⟩
    · exact .inr ⟨_, info, bus₁, e⟩
  · rcases memRead_cases (s.setBus bus) (s.pc + 1) fun lo s => memRead s (s.pc + 2) fun hi s => k (decodeBase b lo hi) s
      with ⟨lo, bus₁, -, -, e⟩ | ⟨info, bus₁, -, -, e⟩
    · rcases memRead_cases (s.setBus bus₁) (s.pc + 2) fun hi s => k (decodeBase b lo hi) s with
        ⟨hi, bus₂, -, -, e₂⟩ | ⟨info, bus₂, -, -, e₂⟩
      · exact .inl ⟨_, bus₂, tier_decodeBase hp lo hi, e.trans e₂⟩
      · exact .inr ⟨_, info, bus₂, e.trans e₂⟩
    · exact .inr ⟨_, info, bus₁, e⟩

theorem Issues.ne_decodeFailure (h : Issues W n bus x) (a : Word) (v : Byte) (bus' : Bus) :
    x ≠ .fault (.decodeFailure a v bus') := by
  induction h with
  | next | readFails | writeFails => nofun
  | read _ _ ih | write _ _ ih => exact ih

/-- Only the undefined rows are decode failures (rules R79, R241). -/
theorem exec_ne_decodeFailure (h : i.tier ≠ .u) (s : State) (a : Word) (v : Byte) (bus : Bus) :
    exec i s ≠ .fault (.decodeFailure a v bus) := by
  intro e
  have hb : i.form.body s = .fault (.decodeFailure a v bus) := exec_eq_fault e
  by_cases hx : i.tier = .x
  · obtain ⟨r, hr⟩ := Form.body_refused (f := i.form) (by rw [Instr.alwaysRefuses_form, hx]; rfl) s
    cases hr.symm.trans hb
  · have hs : i.shape.alwaysStops = false := by simp [Instr.shape_alwaysStops, h, hx]
    exact (Form.body_issues hs (Instr.shape_ne_extended i) s).ne_decodeFailure a v bus ((i.shape_body s).trans hb)

/-- A step at an undefined byte, which is an instruction of one byte (rule R79). -/
theorem step_of_undefinedByte (hs : s.status = .running) (h : s.bus.read s.pc = .byte b bus) (hb : b ∈ undefinedBytes) :
    step s = .fault (.decodeFailure s.pc b bus) :=
  step_of_readsBytes (i := .undefined b) hs (List.contains_iff_mem.mpr hb) nofun ⟨bus, h, rfl⟩

/-- A step at any other byte: the instruction it fetches is not of tier U. -/
theorem step_ne_decodeFailure (hs : s.status = .running) (h : s.bus.read s.pc = .byte b bus) (hb : b ∉ undefinedBytes)
    (a : Word) (v : Byte) (bus' : Bus) : step s ≠ .fault (.decodeFailure a v bus') := by
  rw [step_of_running hs]
  rcases fetch_cases_of_firstByte h exec with ⟨i, bus₁, hi, e⟩ | ⟨a₁, info, bus₁, e⟩
  · have hu : i.tier ≠ .u := fun hu => hb ((byteTier_eq_u_iff b).mp (hi.symm.trans hu))
    rw [e]
    exact exec_ne_decodeFailure hu _ a v bus'
  · rw [e]
    nofun

end Sys2Proof.Machine

namespace Sys2Proof

open Machine

/-- Settles O1: decoding the encoder's bytes, whatever follows them. -/
theorem decodingAnEncodedInstructionGivesItBack : Obligations.DecodingAnEncodedInstructionGivesItBack := by
  unfold Obligations.DecodingAnEncodedInstructionGivesItBack
  exact fun _ rest h => decode_encode_append h rest

/-- Settles O2: what the decoder answers is a row of the maps, and the encoder writes the bytes of the row. -/
theorem decodedBytesEncodeBack : Obligations.DecodedBytesEncodeBack := by
  unfold Obligations.DecodedBytesEncodeBack
  intro bytes rest i h
  obtain ⟨own, hr, hb⟩ := rowBytes_of_decode h
  obtain ⟨hw, he⟩ := hr.encode_eq
  exact ⟨hw, he ▸ hb⟩

/-- Settles O4: the extended map is the selection by the fields. -/
theorem everyPrefixedByteDecodesByItsFields : Obligations.EveryPrefixedByteDecodesByItsFields := by
  unfold Obligations.EveryPrefixedByteDecodesByItsFields
  intro b1 rest
  refine ⟨decodeExtended b1, rfl, tier_decodeExtended b1, ?_⟩
  rw [decodeExtended_eq_extendedRow]
  refine ⟨fun hx => ?_, fun hx => ?_, fun hx => ?_, fun hx => ?_⟩ <;> simp only [extendedRow, hx]

/-- Settles O5: the bytes of the instruction are a row, whose first byte says how many they are; STOP alone counts a byte
it does not encode. -/
theorem lengthFollowsFromTheFirstByte : Obligations.LengthFollowsFromTheFirstByte := by
  unfold Obligations.LengthFollowsFromTheFirstByte
  intro i hw _
  by_cases hs : i = .stop
  · subst hs
    rfl
  have hr : RowBytes (encode i) i := rowBytes_encode hw
  have hb : firstByte i ≠ 0x10 := fun hb => hs (hr.eq_stop hb)
  calc i.length = (encode i).length := Instr.length_eq_length_encode hs
    _ = rowLength (firstByte i) := hr.length_eq
    _ = _ := rowLength_eq hb

/-- Settles O6: both run as the shape of the second byte. -/
theorem prefixRowRunsTheExtendedInstruction : Obligations.PrefixRowRunsTheExtendedInstruction := by
  unfold Obligations.PrefixRowRunsTheExtendedInstruction
  intro b s
  calc exec (.prefixCB b) s = (extendedForm b).body s := runExtended_eq_body b s
    _ = (decodeExtended b).form.body s := by rw [decodeExtended_form]
    _ = exec (decodeExtended b) s := (exec_of_admitted (.inl (tier_decodeExtended b))).symm

/-- Settles O18: a step at a byte of the list is a decode failure, and a step at any other byte none. -/
theorem undefinedBytesAreDecodeFailures : Obligations.UndefinedBytesAreDecodeFailures := by
  unfold Obligations.UndefinedBytesAreDecodeFailures
  exact ⟨fun _ _ _ hs h => ⟨step_of_undefinedByte hs h, step_ne_decodeFailure hs h⟩, fun _ _ => rfl⟩

/-- Settles O3: each word is evaluated. -/
theorem wordsWrittenOutDecode : Obligations.WordsWrittenOutDecode := by
  unfold Obligations.WordsWrittenOutDecode
  decide

end Sys2Proof
end

section
/-! The step around the decoded instruction (spec/40_sequencer.md rules R100, R101, R104, R109): the bytes a step on the flat
RAM decodes, the stopped run, and what a step that does not end Ok leaves of the register file. -/

namespace Sys2Proof

open Machine

variable {s : State} {i : Instr} {own : List Byte} {b0 : Byte} {bus : Bus}

/-! ### Tier G under `GK_OPS = refuse` -/

theorem byteTier_eq_g_iff (b : Byte) : byteTier b = .g ↔ b ∈ tierGBytes := by
  revert b
  decide

/-- The row of a tier-G instruction is one of the base map, which its first byte places in tier G (rules R77, R78). -/
theorem RowBytes.eq_decodeBase_of_tierG (h : RowBytes own i) (hg : i.tier = .g) :
    ∃ b0 tail lo hi, own = b0 :: tail ∧ byteTier b0 = .g ∧ i = decodeBase b0 lo hi := by
  have hb : ∀ {b0 lo hi : Byte}, b0 ≠ prefixByte → (decodeBase b0 lo hi).tier = .g → byteTier b0 = .g := fun hp hg =>
    (tier_decodeBase hp _ _).symm.trans hg
  cases h with
  | extended b1 => cases (tier_decodeExtended b1).symm.trans hg
  | noOperand hp hc => exact ⟨_, _, _, _, rfl, hb hp hg, rfl⟩
  | oneOperand lo hc | twoOperands lo hi hc =>
    exact ⟨_, _, _, _, rfl, hb (ne_prefixByte_of_operandCount (by omega)) hg, rfl⟩

/-- The operands of a refused instruction do not matter: the refusal names the first byte and the row (rule R240). -/
theorem exec_decodeBase_of_refused (ht : byteTier b0 = .g) (hr : s.params.gkOps = .refuse) (lo hi : Byte) :
    exec (decodeBase b0 lo hi) s = exec (decodeBase b0 0 0) s := by
  have hm : b0 ∈ tierGBytes := (byteTier_eq_g_iff b0).mp ht
  unfold tierGBytes at hm
  fin_cases hm <;> exact (gated_of_refuse hr).trans (gated_of_refuse hr).symm

end Sys2Proof

namespace Sys2Proof.Machine

variable {s : State} {i : Instr} {own xs ys rest : List Byte} {b0 : Byte} {bus : Bus} {f : Fault} {r : Refusal}

/-- Before a refusal only the opcode is fetched (rule R240). -/
theorem fetch_of_refused (h : s.bus.read s.pc = .byte b0 bus) (ht : byteTier b0 = .g) (hr : s.params.gkOps = .refuse)
    (k : Instr → State → Result) : fetch s k = k (decodeBase b0 0 0) (s.setBus bus) := by
  have hp : b0 ≠ prefixByte := by
    rintro rfl
    cases ht
  have hn : operandsFetched s.params.gkOps b0 = 0 := by
    simp [operandsFetched, hr, ht]
  rw [fetch, memRead_of_byte h, if_neg hp, State.setBus_params, hn]
  rfl

/-! ### The bytes at PC on the flat RAM -/

/-- On the flat RAM reading fewer bytes leaves the same bus. -/
theorem Bus.ReadsBytes.of_append (hf : bus.FlatRam) {a : Word} (h : bus.ReadsBytes a (xs ++ ys) bus) :
    bus.ReadsBytes a xs bus := by
  induction xs generalizing a with
  | nil => rfl
  | cons v xs ih =>
    obtain ⟨bus₁, h₁, h⟩ := h
    rw [Bus.read_flat hf] at h₁
    cases h₁
    exact ⟨bus, Bus.read_flat hf a, ih h⟩

/-- The flat RAM gives the fetch the bytes it holds at PC (rules R51, R55). -/
theorem Bus.readsBytes_flat (hf : bus.FlatRam) (a : Word) :
    bus.ReadsBytes a [bus.peek a, bus.peek (a + 1), bus.peek (a + 2)] bus := by
  have h₂ : a + 1 + 1 = a + 2 := BitVec.add_assoc a 1 1
  exact ⟨bus, Bus.read_flat hf a, bus, Bus.read_flat hf (a + 1), bus, h₂ ▸ Bus.read_flat hf (a + 2), rfl⟩

/-- On the flat RAM a step is exec of what the bytes at PC decode to: a refused instruction is fetched by its opcode
alone, and any other one by all of its bytes. -/
theorem step_of_decode (hs : s.status = .running) (hf : s.FlatRam)
    (hd : decode [s.bus.peek s.pc, s.bus.peek (s.pc + 1), s.bus.peek (s.pc + 2)] = .instr i rest) :
    step s = exec i s := by
  obtain ⟨own, hrow, hb⟩ := rowBytes_of_decode hd
  by_cases hg : i.tier = .g → s.params.gkOps = .admitG
  · obtain ⟨hw, rfl⟩ := hrow.encode_eq
    have hr : s.bus.ReadsBytes s.pc (encode i ++ rest) s.bus := hb ▸ Bus.readsBytes_flat hf s.pc
    exact step_of_readsBytes hs hw hg (hr.of_append hf)
  · obtain ⟨hg, hn⟩ := Classical.not_imp.mp hg
    have hr : s.params.gkOps = .refuse := by
      cases hk : s.params.gkOps with
      | refuse => rfl
      | admitG => exact absurd hk hn
    obtain ⟨b0, tail, lo, hi, rfl, ht, rfl⟩ := hrow.eq_decodeBase_of_tierG hg
    obtain ⟨rfl, -⟩ := List.cons.inj hb
    rw [step_of_running hs, fetch_of_refused (Bus.read_flat hf s.pc) ht hr, State.setBus_self,
      exec_decodeBase_of_refused ht hr lo hi]

/-! ### Step requests -/

theorem State.request_of_next {t : State} (h : step s = .next t) : s.request = t := by
  simp [State.request, h]

theorem State.request_of_fault (h : step s = .fault f) : s.request = s.stopWith f.outcome f.bus := by
  simp [State.request, h]

theorem State.request_of_refused (h : step s = .refused r) : s.request = s.stopWith r.outcome (r.bus s) := by
  simp [State.request, h]

/-- A state that a step request leaves as it is stays so. -/
theorem State.requests_eq_self (h : s.request = s) (n : Nat) : s.requests n = s := by
  induction n with
  | zero => rfl
  | succ n ih => rw [State.requests_succ, h, ih]

@[simp] theorem State.stopWith_observe (s : State) (o : StopOutcome) (bus : Bus) :
    (s.stopWith o bus).observe = s.observe := rfl

@[simp] theorem State.stopWith_params (s : State) (o : StopOutcome) (bus : Bus) :
    (s.stopWith o bus).params = s.params := rfl

@[simp] theorem State.stopWith_status (s : State) (o : StopOutcome) (bus : Bus) :
    (s.stopWith o bus).status = .stopped o := rfl

end Sys2Proof.Machine

namespace Sys2Proof

open Machine

/-- Settles O10: each condition is the flag it names, or its negation. -/
theorem conditionsReadTheFlags : Obligations.ConditionsReadTheFlags := by
  unfold Obligations.ConditionsReadTheFlags
  exact fun _ => ⟨rfl, rfl, rfl, rfl⟩

/-- Settles O15: the fetch hands on what the bytes decode to, or a row refused in the same words. -/
theorem stepRunsTheDecodedInstruction : Obligations.StepRunsTheDecodedInstruction := by
  unfold Obligations.StepRunsTheDecodedInstruction
  exact fun _ _ _ => step_of_decode

/-- Settles O17: a stopped step answers the same state, so every request leaves it. -/
theorem stoppedRunStaysStopped : Obligations.StoppedRunStaysStopped := by
  unfold Obligations.StoppedRunStaysStopped
  intro s o hs
  have hstep : step s = .next s := step_of_stopped hs
  exact ⟨hstep, State.requests_eq_self (State.request_of_next hstep), rfl⟩

/-- Settles O22: such a step is a fault or a refusal, and both go through `State.stopWith`. -/
theorem stoppedStepKeepsTheRegisterFile : Obligations.StoppedStepKeepsTheRegisterFile := by
  unfold Obligations.StoppedStepKeepsTheRegisterFile
  intro s _ hn
  cases h : step s with
  | next t => exact absurd h (hn t)
  | fault f =>
    rw [State.request_of_fault h]
    exact ⟨State.stopWith_observe .., State.stopWith_params .., _, State.stopWith_status .., .inl ⟨f, rfl, rfl⟩⟩
  | refused r =>
    rw [State.request_of_refused h]
    exact ⟨State.stopWith_observe .., State.stopWith_params .., _, State.stopWith_status .., .inr ⟨r, rfl, rfl⟩⟩

end Sys2Proof
end

section
/-! The RAM after a step that does not end Ok (spec/40_sequencer.md rule R101): an instruction that stores at most one byte
stores it with its last access, so where an access of it fails nothing has been stored. -/

namespace Sys2Proof.Machine

variable {W : List Word} {n : Nat} {bus : Bus} {x : Result} {s : State} {f : Fault}

/-- Where the answer is a fault, the RAM is that of `bus`. -/
def FaultKeepsRam (bus : Bus) (x : Result) : Prop := ∀ f, x = .fault f → f.bus.cells = bus.cells

/-! ### What follows from the accesses -/

theorem Issues.next_or_fault (h : Issues W n bus x) : (∃ t, x = .next t) ∨ ∃ f, x = .fault f := by
  induction h with
  | next => exact .inl ⟨_, rfl⟩
  | read _ _ ih | write _ _ ih => exact ih
  | readFails | writeFails => exact .inr ⟨_, rfl⟩

/-- Reads alone keep the RAM. -/
theorem Issues.faultKeepsRam (h : Issues [] n bus x) : FaultKeepsRam bus x := by
  generalize hW : ([] : List Word) = W at h
  induction h with
  | next => nofun
  | read h _ ih => exact fun f e => (ih hW f e).trans (Bus.read_byte h).1
  | readFails h =>
    rintro f ⟨⟩
    exact (Bus.read_fail h).1
  | write | writeFails => cases hW

theorem StopsAtOnce.faultKeepsRam (h : StopsAtOnce bus x) : FaultKeepsRam bus x := by
  rintro f rfl
  cases h
  rfl

/-! ### Accesses of which the write is the last -/

theorem memRead_faultKeepsRam {a : Word} {k : Byte → State → Result}
    (hk : ∀ v bus, FaultKeepsRam bus (k v (s.setBus bus))) : FaultKeepsRam s.bus (memRead s a k) := by
  intro f e
  rcases memRead_eq_fault e with ⟨v, bus, h, e⟩ | ⟨info, bus, h, rfl⟩
  · exact (hk v bus f e).trans (Bus.read_byte h).1
  · exact (Bus.read_fail h).1

theorem memWrite_faultKeepsRam {a : Word} {v : Byte} {k : State → Result} (hk : ∀ t f, k t ≠ .fault f) :
    FaultKeepsRam s.bus (memWrite s a v k) := by
  intro f e
  rcases memWrite_eq_fault e with ⟨bus, -, e⟩ | ⟨info, bus, h, rfl⟩
  · exact absurd e (hk _ f)
  · exact (Bus.write_fail h).1

/-- A read of an operand and then a write to it, with nothing that can fail after it. -/
theorem readModifyWrite_faultKeepsRam {r : Opd8} {g : Byte → State → Byte} {k : Byte → State → State → Result}
    (hk : ∀ v s₁ s₂ f, k v s₁ s₂ ≠ .fault f) :
    FaultKeepsRam s.bus (read8 s r fun v s₁ => write8 s₁ r (g v s₁) (k v s₁)) := by
  cases r with
  | reg q => exact fun f e => absurd e (hk _ _ _ f)
  | atHL =>
    exact memRead_faultKeepsRam (k := fun v s₁ => write8 s₁ .atHL (g v s₁) (k v s₁)) fun v bus =>
      memWrite_faultKeepsRam (s := s.setBus bus) (hk v (s.setBus bus))

theorem incOperand_faultKeepsRam (r : Opd8) : FaultKeepsRam s.bus (incOperand r s) :=
  readModifyWrite_faultKeepsRam fun _ _ _ _ => advance_ne_fault

theorem decOperand_faultKeepsRam (r : Opd8) : FaultKeepsRam s.bus (decOperand r s) :=
  readModifyWrite_faultKeepsRam fun _ _ _ _ => advance_ne_fault

theorem rotateOperand_faultKeepsRam (op : RotOp) (r : Opd8) : FaultKeepsRam s.bus (rotateOperand op r s) :=
  readModifyWrite_faultKeepsRam fun _ _ _ _ => advance_ne_fault

theorem resetBit_faultKeepsRam (b : Fin 8) (r : Opd8) : FaultKeepsRam s.bus (resetBit b r s) :=
  readModifyWrite_faultKeepsRam fun _ _ _ _ => advance_ne_fault

theorem setBit_faultKeepsRam (b : Fin 8) (r : Opd8) : FaultKeepsRam s.bus (setBit b r s) :=
  readModifyWrite_faultKeepsRam fun _ _ _ _ => advance_ne_fault

theorem storeTo_faultKeepsRam (a : Word) (v : Byte) (len : Word) : FaultKeepsRam s.bus (storeTo a v len s) :=
  memWrite_faultKeepsRam fun _ _ => advance_ne_fault

theorem storeAndStep_faultKeepsRam (delta : Word) : FaultKeepsRam s.bus (storeAndStep delta s) := by
  unfold storeAndStep
  exact memWrite_faultKeepsRam fun _ _ => advance_ne_fault

end Sys2Proof.Machine

namespace Sys2Proof

open Machine

section

variable {f : Form} {i : Instr} {s : State}

/-! ### Every instruction -/

/-- A shape that stores nothing keeps the RAM where it faults. -/
theorem Form.body_faultKeepsRam_of_noStore (h : f.storesAt s = []) (hx : ∀ b, f ≠ .extended b) :
    FaultKeepsRam s.bus (f.body s) := by
  cases hs : f.alwaysStops with
  | true => exact (Form.body_stopsAtOnce hs s).faultKeepsRam
  | false =>
    have hi : Issues (f.storesAt s) (f.accesses s.flags) s.bus (f.body s) := Form.body_issues hs hx s
    rw [h] at hi
    exact hi.faultKeepsRam

/-- So does a shape that stores one byte: the write is its last access. -/
theorem Form.body_faultKeepsRam (h : (f.storesAt s).length ≤ 1) (hx : ∀ b, f ≠ .extended b) :
    FaultKeepsRam s.bus (f.body s) := by
  by_cases hn : f.storesAt s = []
  · exact Form.body_faultKeepsRam_of_noStore hn hx
  cases f with
  | inc => exact incOperand_faultKeepsRam _
  | dec => exact decOperand_faultKeepsRam _
  | rotate => exact rotateOperand_faultKeepsRam _ _
  | res => exact resetBit_faultKeepsRam _ _
  | set => exact setBit_faultKeepsRam _ _
  | storeToHl | storeImm | storeA => exact storeTo_faultKeepsRam _ _ _
  | storeAStep => exact storeAndStep_faultKeepsRam _
  | storeSp | push | call | restart => exact absurd h (Nat.not_succ_le_self 1)
  | callIf cc w =>
    rw [Form.storesAt] at h hn
    split_ifs at h hn
    · exact absurd h (Nat.not_succ_le_self 1)
    · exact absurd rfl hn
  | _ => exact absurd rfl hn

/-- An instruction whose shape stores at most one byte keeps the RAM where it faults. -/
theorem exec_faultKeepsRam (h : (i.shape.storesAt s).length ≤ 1) : FaultKeepsRam s.bus (exec i s) := fun f e =>
  Form.body_faultKeepsRam h (Instr.shape_ne_extended i) f ((i.shape_body s).trans (exec_eq_fault e))

/-- The shapes that can store two bytes (rules R243, R252, R256 to R258). -/
def Form.storesTwice : Form → Bool
  | .storeSp _ | .push _ | .call _ | .callIf _ _ | .restart _ => true
  | _ => false

theorem Opd8.length_storesAt_le_one (r : Opd8) (s : State) : (r.storesAt s).length ≤ 1 := by
  cases r with
  | reg => exact Nat.zero_le 1
  | atHL => exact Nat.le_refl 1

theorem Form.length_storesAt_le_one (h : f.storesTwice = false) (s : State) : (f.storesAt s).length ≤ 1 := by
  cases f with
  | inc r | dec r | rotate _ r | res _ r | set _ r => exact Opd8.length_storesAt_le_one r s
  | storeToHl | storeImm | storeA | storeAStep => exact Nat.le_refl 1
  | storeSp | push | call | callIf | restart => cases h
  | _ => exact Nat.zero_le 1

theorem extendedForm_storesTwice (b : Byte) : (extendedForm b).storesTwice = false := by
  unfold extendedForm
  dsimp only
  split <;> rfl

/-- They are all tier G (rules R4, R101). -/
theorem Instr.storesTwice_of_tier (h : i.tier ≠ .g) : i.shape.storesTwice = false := by
  cases i with
  | prefixCB b => rw [Instr.shape_prefixCB, decodeExtended_form, extendedForm_storesTwice]
  | _ => first | rfl | exact absurd rfl h

/-- With `GK_OPS = refuse` an instruction that does not end Ok leaves the RAM as it was (rule R101). -/
theorem exec_stop_keeps_ram (hr : s.params.gkOps = .refuse) (hn : ∀ t, exec i s ≠ .next t) (s₀ : State) :
    (busLeft s₀ (exec i s)).cells = s.bus.cells := by
  rcases exec_bus_cases i s with h | h
  · rcases h.next_or_fault with ⟨t, e⟩ | ⟨f, e⟩
    · exact absurd e (hn t)
    · have ht : i.tier ≠ .g := by
        intro hg
        obtain ⟨m, e'⟩ := exec_tierG_refused hg hr
        cases e'.symm.trans e
      rw [e]
      exact exec_faultKeepsRam (Form.length_storesAt_le_one (Instr.storesTwice_of_tier ht) s) f e
  · rw [h.busLeft_eq]

/-- The RAM a stopped step leaves with `GK_OPS = refuse`: that of its fetch. -/
theorem step_stop_keeps_ram (hr : s.params.gkOps = .refuse) (hn : ∀ t, step s ≠ .next t) :
    (busLeft s (step s)).cells = s.bus.cells := by
  rcases step_cases s with e | ⟨i, bus, hc, -, e⟩ | ⟨a, info, bus, hc, -, e⟩
  · exact absurd e (hn s)
  · rw [e] at hn ⊢
    exact (exec_stop_keeps_ram (s := s.setBus bus) hr hn s).trans hc
  · rw [e]
    exact hc

end

/-- Settles O23: the RAM of a stopped step is that of its fetch. -/
theorem stoppedTierSStepHasWrittenNothing : Obligations.StoppedTierSStepHasWrittenNothing := by
  unfold Obligations.StoppedTierSStepHasWrittenNothing
  intro s hr _ hn a
  rw [State.request_bus]
  exact congrArg (Memory.peek · a.toNat) (step_stop_keeps_ram hr hn)

/-- Settles O24: a fault comes of the accesses before it, and of a single store none is before it. -/
theorem faultTouchesOnlyTheStoredBytes : Obligations.FaultTouchesOnlyTheStoredBytes := by
  unfold Obligations.FaultTouchesOnlyTheStoredBytes
  intro i s f e
  refine ⟨fun a ha => ?_, fun hl => exec_faultKeepsRam hl f e⟩
  rcases exec_bus_cases i s with h | h
  · rw [e] at h
    exact h.peek_busLeft ha s
  · rw [e] at h
    exact congrArg (Bus.peek · a) (h.busLeft_eq s)

end Sys2Proof
end

section
/-! Where an instruction leaves PC (spec/40_sequencer.md rule R103).  `EndsAt w x` says that a next state has PC at `w`;
the accesses hand PC on, and `advance` adds the length. -/

namespace Sys2Proof.Machine

/-- A next state has PC at `w`. -/
def EndsAt (w : Word) (x : Result) : Prop := ∀ t, x = .next t → t.pc = w

variable {s : State} {p w : Word} {x : Result}

/-! ### The shared operations -/

theorem EndsAt.fault (f : Fault) : EndsAt w (.fault f) := fun _ e => by cases e

theorem EndsAt.refused (r : Refusal) : EndsAt w (.refused r) := fun _ e => by cases e

theorem EndsAt.advance (h : s.pc = p) (len : Word) : EndsAt (p + len) (advance len s) := by
  rintro t e
  rw [← advance_eq_next.mp e, State.setPc_pc, h]

theorem memRead_endsAt {a : Word} {k : Byte → State → Result} (h : s.pc = p)
    (hk : ∀ v t, t.pc = p → EndsAt w (k v t)) : EndsAt w (memRead s a k) := by
  intro u e
  obtain ⟨v, bus, -, e⟩ := memRead_eq_next e
  exact hk v (s.setBus bus) h u e

theorem memWrite_endsAt {a : Word} {v : Byte} {k : State → Result} (h : s.pc = p)
    (hk : ∀ t, t.pc = p → EndsAt w (k t)) : EndsAt w (memWrite s a v k) := by
  intro u e
  obtain ⟨bus, -, e⟩ := memWrite_eq_next e
  exact hk (s.setBus bus) h u e

theorem read8_endsAt {o : Opd8} {k : Byte → State → Result} (h : s.pc = p)
    (hk : ∀ v t, t.pc = p → EndsAt w (k v t)) : EndsAt w (read8 s o k) := by
  cases o with
  | reg q => exact hk _ s h
  | atHL => exact memRead_endsAt h hk

theorem write8_endsAt {o : Opd8} {v : Byte} {k : State → Result} (h : s.pc = p)
    (hk : ∀ t, t.pc = p → EndsAt w (k t)) : EndsAt w (write8 s o v k) := by
  cases o with
  | reg q => exact hk _ h
  | atHL => exact memWrite_endsAt h hk

theorem push16_endsAt {v : Word} {k : State → Result} (h : s.pc = p) (hk : ∀ t, t.pc = p → EndsAt w (k t)) :
    EndsAt w (push16 s v k) := by
  rw [push16_eq]
  exact memWrite_endsAt h fun t h => memWrite_endsAt (s := t.setSp _) h hk

theorem pop16_endsAt {k : Word → State → Result} (h : s.pc = p) (hk : ∀ v t, t.pc = p → EndsAt w (k v t)) :
    EndsAt w (pop16 s k) :=
  memRead_endsAt h fun _ t h => memRead_endsAt (s := t.setSp _) h fun _ u h => hk _ (u.setSp _) h

/-- A read of an operand, a write to it and then the end of the instruction. -/
theorem readModifyWrite_endsAt {o : Opd8} {g : Byte → State → Byte} {k : Byte → State → State → Result}
    (hk : ∀ v s₁ s₂, s₂.pc = s.pc → EndsAt w (k v s₁ s₂)) :
    EndsAt w (read8 s o fun v s₁ => write8 s₁ o (g v s₁) (k v s₁)) :=
  read8_endsAt rfl fun v t h => write8_endsAt h (hk v t)

/-! ### The meanings with an access, or with a condition that does not hold -/

theorem aluOperand_endsAt (op : AluOp) (o : Opd8) : EndsAt (s.pc + 1) (aluOperand op o s) :=
  read8_endsAt rfl fun _ _ h => .advance ((State.setFlags_pc ..).trans ((State.setReg_pc ..).trans h)) 1

theorem testBit_endsAt (b : Fin 8) (o : Opd8) : EndsAt (s.pc + 2) (testBit b o s) :=
  read8_endsAt rfl fun _ _ h => .advance ((State.setFlags_pc ..).trans h) 2

theorem incOperand_endsAt (o : Opd8) : EndsAt (s.pc + 1) (incOperand o s) :=
  readModifyWrite_endsAt fun _ _ _ h => .advance ((State.setFlags_pc ..).trans h) 1

theorem decOperand_endsAt (o : Opd8) : EndsAt (s.pc + 1) (decOperand o s) :=
  readModifyWrite_endsAt fun _ _ _ h => .advance ((State.setFlags_pc ..).trans h) 1

theorem rotateOperand_endsAt (op : RotOp) (o : Opd8) : EndsAt (s.pc + 2) (rotateOperand op o s) :=
  readModifyWrite_endsAt fun _ _ _ h => .advance ((State.setFlags_pc ..).trans h) 2

theorem resetBit_endsAt (b : Fin 8) (o : Opd8) : EndsAt (s.pc + 2) (resetBit b o s) :=
  readModifyWrite_endsAt fun _ _ _ h => .advance h 2

theorem setBit_endsAt (b : Fin 8) (o : Opd8) : EndsAt (s.pc + 2) (setBit b o s) :=
  readModifyWrite_endsAt fun _ _ _ h => .advance h 2

theorem loadFrom_endsAt (r : Reg8) (a len : Word) : EndsAt (s.pc + len) (loadFrom r a len s) :=
  memRead_endsAt rfl fun _ _ h => .advance ((State.setReg_pc ..).trans h) len

theorem storeTo_endsAt (a : Word) (v : Byte) (len : Word) : EndsAt (s.pc + len) (storeTo a v len s) :=
  memWrite_endsAt rfl fun _ h => .advance h len

theorem loadAndStep_endsAt (delta : Word) : EndsAt (s.pc + 1) (loadAndStep delta s) := by
  unfold loadAndStep
  exact memRead_endsAt rfl fun _ _ h => .advance ((State.setPair_pc ..).trans ((State.setReg_pc ..).trans h)) 1

theorem storeAndStep_endsAt (delta : Word) : EndsAt (s.pc + 1) (storeAndStep delta s) := by
  unfold storeAndStep
  exact memWrite_endsAt rfl fun _ h => .advance ((State.setPair_pc ..).trans h) 1

theorem storeSp_endsAt (a : Word) : EndsAt (s.pc + 3) (storeSp a s) :=
  memWrite_endsAt rfl fun _ h => memWrite_endsAt h fun _ h => .advance h 3

theorem pushPair_endsAt (q : Pair) : EndsAt (s.pc + 1) (pushPair q s) :=
  push16_endsAt rfl fun _ h => .advance h 1

theorem popPair_endsAt (q : Pair) : EndsAt (s.pc + 1) (popPair q s) :=
  pop16_endsAt rfl fun _ _ h => .advance ((State.setPair_pc ..).trans h) 1

theorem jumpIf_of_not {cc : Cond} (h : condHolds s.flags cc = false) (target : Word) :
    jumpIf cc target s = advance 3 s := by
  simp [jumpIf, h]

theorem jumpRelIf_of_not {cc : Cond} (h : condHolds s.flags cc = false) (e : Byte) :
    jumpRelIf cc e s = advance 2 s := by
  simp [jumpRelIf, h]

theorem callIf_of_not {cc : Cond} (h : condHolds s.flags cc = false) (target : Word) :
    callIf cc target s = advance 3 s := by
  simp [callIf, h]

theorem returnIf_of_not {cc : Cond} (h : condHolds s.flags cc = false) : returnIf cc s = advance 1 s := by
  simp [returnIf, h]

end Sys2Proof.Machine

namespace Sys2Proof

open Machine

section

variable {f : Form} {i : Instr} {s t : State}

/-! ### Every instruction -/

/-- The encoded length of a shape (rule R81). -/
def Form.len : Form → Word
  | .aluImm _ _ | .rotate _ _ | .bit _ _ | .res _ _ | .set _ _ | .jumpRel _ | .jumpRelIf _ _ | .loadImm _ _ | .storeImm _
  | .addSp _ | .loadHlSp _ | .stop | .extended _ => 2
  | .jump _ | .jumpIf _ _ | .loadWord _ _ | .storeSp _ | .loadSp _ | .call _ | .callIf _ _ => 3
  | .loadA m | .storeA m => m.len
  | .alu _ _ | .inc _ | .dec _ | .incWide _ | .decWide _ | .addHl _ | .ccf | .scf | .cpl | .rotateA _ | .jumpHl | .load _ _
  | .loadFromHl _ | .storeToHl _ | .loadAStep _ | .storeAStep _ | .nop | .di | .daa | .loadSpHl | .push _ | .pop _
  | .restart _ | .ret | .retIf _ | .halt | .ei | .reti | .undefined _ => 1

/-- It is the length of every instruction of the shape. -/
theorem Instr.len_form (i : Instr) : i.form.len = BitVec.ofNat 16 i.length := by
  cases i <;> rfl

/-- A shape that sets no PC target adds its length to PC. -/
theorem Form.body_endsAt (h : f.setsPc s.flags = false) (hx : ∀ b, f ≠ .extended b) :
    EndsAt (s.pc + f.len) (f.body s) := by
  cases f with
  | alu => exact aluOperand_endsAt _ _
  | bit => exact testBit_endsAt _ _
  | inc => exact incOperand_endsAt _
  | dec => exact decOperand_endsAt _
  | rotate => exact rotateOperand_endsAt _ _
  | res => exact resetBit_endsAt _ _
  | set => exact setBit_endsAt _ _
  | loadFromHl | loadA => exact loadFrom_endsAt _ _ _
  | storeToHl | storeImm | storeA => exact storeTo_endsAt _ _ _
  | loadAStep => exact loadAndStep_endsAt _
  | storeAStep => exact storeAndStep_endsAt _
  | storeSp => exact storeSp_endsAt _
  | push => exact pushPair_endsAt _
  | pop => exact popPair_endsAt _
  | incWide rr | decWide rr => exact .advance (s.setWide_pc rr _) 1
  | loadWord q w => exact .advance (s.setPair_pc (wordPair q) w) 3
  | jumpIf cc w =>
    rw [Form.body, jumpIf_of_not h]
    exact .advance rfl 3
  | jumpRelIf cc e =>
    rw [Form.body, jumpRelIf_of_not h]
    exact .advance rfl 2
  | callIf cc w =>
    rw [Form.body, callIf_of_not h]
    exact .advance rfl 3
  | retIf cc =>
    rw [Form.body, returnIf_of_not h]
    exact .advance rfl 1
  | aluImm | addHl | ccf | scf | cpl | rotateA | load | loadImm | nop | di | daa | loadSp | loadSpHl | addSp
  | loadHlSp => exact .advance rfl _
  | halt | stop | ei | reti => exact .refused _
  | undefined => exact .fault _
  | jump | jumpRel | jumpHl | call | restart | ret => cases h
  | extended b => exact absurd rfl (hx b)

end

/-- Settles O35: a well-formed instruction is not `prefixCB`, so its shape adds its length to PC. -/
theorem pcAdvancesByTheLength : Obligations.PcAdvancesByTheLength := by
  unfold Obligations.PcAdvancesByTheLength
  intro i s t hw h hp
  have hx : ∀ b, i.form ≠ .extended b := by
    rw [← Instr.shape_eq_form (by rintro b rfl; cases hw)]
    exact Instr.shape_ne_extended i
  rw [← Instr.len_form]
  exact Form.body_endsAt hp hx t (exec_eq_next h)

end Sys2Proof
end

section
/-! The accumulator operations (spec/41_alu8.md): the adder, the subtractor and the bitwise results in integers (rules R115,
R116, R124 to R126), what each of the eight operations leaves, and its register and `(HL)` forms (rules R120 to R127). -/

namespace Sys2Proof.Machine

/-! ### Bytes and bits in integers -/

theorem beq_zero_of_toNat_eq {v : Byte} {n : Nat} (h : v.toNat = n) : (v == 0) = (n == 0) := by
  rw [Bool.eq_iff_iff, beq_iff_eq, beq_iff_eq, ← h]
  exact BitVec.toNat_inj.symm

theorem eq_ofNat_of_toNat_eq {v : Byte} {n : Nat} (h : v.toNat = n) : v = BitVec.ofNat 8 n := by
  rw [← h, BitVec.ofNat_toNat, BitVec.setWidth_eq]

theorem toNat_and_lowNibble (v : Byte) : (v &&& 0xF).toNat = v.toNat % 16 :=
  Nat.and_two_pow_sub_one_eq_mod v.toNat 4

@[simp] theorem bitNat_eq_toNat (b : Bool) : bitNat b = b.toNat := by cases b <;> rfl

@[simp] theorem toNat_bitByte (b : Bool) : (bitByte b).toNat = b.toNat := by cases b <;> rfl

/-! ### The adder, the subtractor and the bitwise results -/

/-- Rule R115 in integers. -/
theorem add8_eq (x y : Byte) (cin : Bool) :
    add8 x y cin =
      { res := BitVec.ofNat 8 ((x.toNat + y.toNat + cin.toNat) % 256)
        z := (x.toNat + y.toNat + cin.toNat) % 256 == 0
        h := decide (15 < x.toNat % 16 + y.toNat % 16 + cin.toNat)
        c := decide (255 < x.toNat + y.toNat + cin.toNat) } := by
  have hres : (x + y + bitByte cin).toNat = (x.toNat + y.toNat + cin.toNat) % 256 := by simp
  simp only [add8, beq_zero_of_toNat_eq hres, ← eq_ofNat_of_toNat_eq hres, toNat_and_lowNibble, bitNat_eq_toNat,
    gt_iff_lt]

/-- Rule R116 in integers: 256 is lent to the difference, and given back by the remainder. -/
theorem sub8_eq (x y : Byte) (cin : Bool) :
    sub8 x y cin =
      { res := BitVec.ofNat 8 ((x.toNat + 256 - y.toNat - cin.toNat) % 256)
        z := (x.toNat + 256 - y.toNat - cin.toNat) % 256 == 0
        h := decide (x.toNat % 16 < y.toNat % 16 + cin.toNat)
        c := decide (x.toNat < y.toNat + cin.toNat) } := by
  have hres : (x - y - bitByte cin).toNat = (x.toNat + 256 - y.toNat - cin.toNat) % 256 := by
    have hy : y.toNat < 256 := y.isLt
    have hcin : cin.toNat ≤ 1 := cin.toNat_le
    rw [BitVec.toNat_sub, BitVec.toNat_sub, toNat_bitByte]
    omega
  simp only [sub8, beq_zero_of_toNat_eq hres, ← eq_ofNat_of_toNat_eq hres, toNat_and_lowNibble, bitNat_eq_toNat]

theorem logicOut_of_toNat_eq {v : Byte} {n : Nat} (h : v.toNat = n) (half : Bool) :
    logicOut v half = ⟨BitVec.ofNat 8 n, ⟨n == 0, false, half, false⟩⟩ := by
  rw [logicOut, beq_zero_of_toNat_eq h, ← eq_ofNat_of_toNat_eq h]

/-! ### The eight operations -/

/-- The result and the flags of every operation in integers (rules R120 to R127). -/
theorem aluOut_eq (op : AluOp) (x y : Byte) (cin : Bool) :
    aluOut op x y cin =
      ⟨BitVec.ofNat 8 (op.accLeft x.toNat y.toNat cin.toNat), op.flagsLeft x.toNat y.toNat cin.toNat⟩ := by
  cases op with
  | add => exact congrArg addOut (add8_eq x y false)
  | adc => exact congrArg addOut (add8_eq x y cin)
  | sub => exact congrArg subOut (sub8_eq x y false)
  | sbc => exact congrArg subOut (sub8_eq x y cin)
  | and => exact logicOut_of_toNat_eq (BitVec.toNat_and x y) true
  | xor => exact logicOut_of_toNat_eq (BitVec.toNat_xor x y) false
  | or => exact logicOut_of_toNat_eq (BitVec.toNat_or x y) false
  | cp =>
    -- the flags are those of SUB, and A is kept
    rw [AluOp.accLeft, ← eq_ofNat_of_toNat_eq rfl]
    exact congrArg (AluOut.mk x <| AluOut.flags <| subOut ·) (sub8_eq x y false)

/-- The operation answers the next state: A, the flags and PC are set, and the rest is as it was. -/
theorem aluApply_eq (op : AluOp) (v : Byte) (len : Word) (s : State) :
    aluApply op v len s = .next { s with
      regs := { s.regs with a := BitVec.ofNat 8 (op.accLeft s.regs.a.toNat v.toNat s.flags.c.toNat) }
      flags := op.flagsLeft s.regs.a.toNat v.toNat s.flags.c.toNat
      pc := s.pc + len } := by
  rw [aluApply, aluOut_eq]
  rfl

end Sys2Proof.Machine

namespace Sys2Proof

open Machine

/-! ### The register and `(HL)` forms -/

theorem encode_aluReg (op : AluOp) (r : Opd8) :
    encode (.aluReg op r) = [BitVec.ofNat 8 (0x80 + 8 * op.code + r.code)] := by
  cases r with
  | reg q => cases op <;> cases q <;> rfl
  | atHL => cases op <;> rfl

theorem exec_aluReg (op : AluOp) (r : Opd8) (s : State) : exec (.aluReg op r) s = aluOperand op r s := by
  cases r with
  | reg q => cases op <;> cases q <;> rfl
  | atHL => cases op <;> rfl

/-- Settles O38: the operand read changes at most the bus, so the operation runs on A, C and PC as they were before it. -/
theorem accumulatorOperationsOnAnOperand : Obligations.AccumulatorOperationsOnAnOperand := by
  unfold Obligations.AccumulatorOperationsOnAnOperand
  intro op r
  refine ⟨encode_aluReg op r, fun s s' v h => ?_, fun s info bus h => ?_⟩
  · obtain ⟨hregs, hflags, hpc, -, -⟩ := h.keeps
    rw [exec_aluReg, aluOperand, read8_of h, aluApply_eq, hregs, hflags, hpc]
  · rw [exec_aluReg]
    exact read8_of_fail h

end Sys2Proof
end

section
/-! INC, DEC and ADD HL,rr (spec/42_incdec_add16.md): the results and flags in integers, what the operand forms do when both
accesses are served, and the word forms, which have no access (rules R140 to R144). -/

namespace Sys2Proof.Machine

/-! ### Results and flags in integers -/

theorem add_one_eq_ofNat (v : Byte) : v + 1 = BitVec.ofNat 8 ((v.toNat + 1) % 256) :=
  eq_ofNat_of_toNat_eq (BitVec.toNat_add v 1)

theorem sub_one_eq_ofNat (v : Byte) : v - 1 = BitVec.ofNat 8 ((v.toNat + 255) % 256) :=
  eq_ofNat_of_toNat_eq (by rw [BitVec.toNat_sub, Nat.add_comm]; rfl)

/-- The low nibble is compared as an integer. -/
theorem lowNibble_beq (v k : Byte) : (v &&& 0xF == k) = (v.toNat % 16 == k.toNat) := by
  rw [Bool.eq_iff_iff, beq_iff_eq, beq_iff_eq, ← toNat_and_lowNibble]
  exact BitVec.toNat_inj.symm

/-- Z and H of INC: 255 wraps to 0, and a low nibble of 15 carries (rule R140). -/
theorem incFlags_eq (f : Flags) (v : Byte) :
    incFlags f v = ⟨v.toNat == 255, false, v.toNat % 16 == 15, f.c⟩ := by
  have hz : (v + 1 == 0) = (v.toNat == 255) := by
    rw [Bool.eq_iff_iff, beq_iff_eq, beq_iff_eq]
    bv_omega
  rw [incFlags, hz, lowNibble_beq]
  rfl

/-- Z and H of DEC: 1 becomes 0, and a low nibble of 0 borrows (rule R141). -/
theorem decFlags_eq (f : Flags) (v : Byte) :
    decFlags f v = ⟨v.toNat == 1, true, v.toNat % 16 == 0, f.c⟩ := by
  have hz : (v - 1 == 0) = (v.toNat == 1) := by
    rw [Bool.eq_iff_iff, beq_iff_eq, beq_iff_eq]
    bv_omega
  rw [decFlags, hz, lowNibble_beq]
  rfl

theorem word_eq_ofNat_of_toNat_eq {w : Word} {n : Nat} (h : w.toNat = n) : w = BitVec.ofNat 16 n := by
  rw [← h, BitVec.ofNat_toNat, BitVec.setWidth_eq]

theorem word_add_eq_ofNat (u w : Word) : u + w = BitVec.ofNat 16 ((u.toNat + w.toNat) % 65536) :=
  word_eq_ofNat_of_toNat_eq (BitVec.toNat_add u w)

theorem word_sub_one_eq_ofNat (w : Word) : w - 1 = BitVec.ofNat 16 ((w.toNat + 65535) % 65536) :=
  word_eq_ofNat_of_toNat_eq (by rw [BitVec.toNat_sub, Nat.add_comm]; rfl)

theorem toNat_and_low12 (w : Word) : (w &&& 0xFFF).toNat = w.toNat % 4096 :=
  Nat.and_two_pow_sub_one_eq_mod w.toNat 12

/-- H is the carry out of bit 11 and C the carry out of bit 15 (rule R144). -/
theorem addHlFlags_eq (f : Flags) (hl w : Word) :
    addHlFlags f hl w =
      ⟨f.z, false, decide (4095 < hl.toNat % 4096 + w.toNat % 4096), decide (65535 < hl.toNat + w.toNat)⟩ := by
  simp only [addHlFlags, toNat_and_low12, gt_iff_lt]

/-! ### INC and DEC of a byte operand -/

variable {s s' t : State} {r : Opd8} {v : Byte} {info : Nat} {bus₁ bus₂ : Bus}

/-- An operand read and then written back, both served: what follows sees the byte read and the state after each access. -/
theorem readModifyWrite_of {g : Byte → State → Byte} (hr : ReadsOperand s r v s') (hw : WritesOperand s' r (g v s') t)
    (k : Byte → State → State → Result) :
    (read8 s r fun v s₁ => write8 s₁ r (g v s₁) (k v s₁)) = k v s' t := by
  rw [read8_of hr, write8_of hw]

/-- The operand `(HL)` read and then written back, the write failing: HL is still the address. -/
theorem readModifyWrite_of_failingWrite {g : Byte → State → Byte} {k : Byte → State → State → Result}
    (hr : s.bus.read (s.pair .hl) = .byte v bus₁)
    (hw : bus₁.write (s.pair .hl) (g v (s.setBus bus₁)) = .fail info bus₂) :
    (read8 s .atHL fun v s₁ => write8 s₁ .atHL (g v s₁) (k v s₁)) =
      .fault (.busFailure .write (s.pair .hl) (some (g v (s.setBus bus₁))) info bus₂) := by
  rw [read8_of (r := .atHL) ⟨bus₁, hr, rfl⟩]
  exact write8_of_fail (s := s.setBus bus₁) hw

/-- The two accesses of a byte operand leave the flags and PC. -/
theorem flags_pc_of_readModifyWrite {w : Byte} (hr : ReadsOperand s r v s') (hw : WritesOperand s' r w t) :
    t.flags = s.flags ∧ t.pc = s.pc := by
  obtain ⟨-, hflags, hpc, -, -⟩ := hr.keeps
  obtain ⟨hflags', hpc', -, -⟩ := hw.keeps
  exact ⟨hflags'.trans hflags, hpc'.trans hpc⟩

/-- Rule R140 with both accesses served. -/
theorem incOperand_of (hr : ReadsOperand s r v s') (hw : WritesOperand s' r (v + 1) t) :
    incOperand r s = .next { t with
      flags := ⟨v.toNat == 255, false, v.toNat % 16 == 15, s.flags.c⟩
      pc := s.pc + 1 } := by
  obtain ⟨hflags, hpc⟩ := flags_pc_of_readModifyWrite hr hw
  rw [incOperand, readModifyWrite_of (g := fun v _ => v + 1) hr hw, incFlags_eq, hflags, ← hpc]
  rfl

/-- Rule R141 with both accesses served. -/
theorem decOperand_of (hr : ReadsOperand s r v s') (hw : WritesOperand s' r (v - 1) t) :
    decOperand r s = .next { t with
      flags := ⟨v.toNat == 1, true, v.toNat % 16 == 0, s.flags.c⟩
      pc := s.pc + 1 } := by
  obtain ⟨hflags, hpc⟩ := flags_pc_of_readModifyWrite hr hw
  rw [decOperand, readModifyWrite_of (g := fun v _ => v - 1) hr hw, decFlags_eq, hflags, ← hpc]
  rfl

/-! ### The word forms -/

/-- The word write and the step of PC can change places, since `rr` never names PC. -/
theorem advance_setWide (rr : Reg16) (w len : Word) (s : State) :
    advance len (s.setWide rr w) = .next ({ s with pc := s.pc + len }.setWide rr w) := by
  cases rr <;> rfl

/-- Rule R142 in integers. -/
theorem incWide_eq (rr : Reg16) (s : State) :
    incWide rr s =
      .next ({ s with pc := s.pc + 1 }.setWide rr (BitVec.ofNat 16 (((s.wide rr).toNat + 1) % 65536))) := by
  rw [incWide, word_add_eq_ofNat, advance_setWide]
  rfl

/-- Rule R143 in integers. -/
theorem decWide_eq (rr : Reg16) (s : State) :
    decWide rr s =
      .next ({ s with pc := s.pc + 1 }.setWide rr (BitVec.ofNat 16 (((s.wide rr).toNat + 65535) % 65536))) := by
  rw [decWide, word_sub_one_eq_ofNat, advance_setWide]

/-- Rule R144 in integers. -/
theorem addHl_eq (rr : Reg16) (s : State) :
    addHl rr s = .next ({ s with
      flags := ⟨s.flags.z, false, decide (4095 < (s.pair .hl).toNat % 4096 + (s.wide rr).toNat % 4096),
        decide (65535 < (s.pair .hl).toNat + (s.wide rr).toNat)⟩
      pc := s.pc + 1 }.setPair .hl (BitVec.ofNat 16 (((s.pair .hl).toNat + (s.wide rr).toNat) % 65536))) := by
  rw [addHl, word_add_eq_ofNat, addHlFlags_eq]
  rfl

end Sys2Proof.Machine

namespace Sys2Proof

open Machine

/-! ### The instructions -/

theorem encode_incReg (r : Opd8) : encode (.incReg r) = [BitVec.ofNat 8 (0x04 + 8 * r.code)] := by
  cases r with
  | reg q => cases q <;> rfl
  | atHL => rfl

theorem encode_decReg (r : Opd8) : encode (.decReg r) = [BitVec.ofNat 8 (0x05 + 8 * r.code)] := by
  cases r with
  | reg q => cases q <;> rfl
  | atHL => rfl

theorem exec_incReg (r : Opd8) (s : State) : exec (.incReg r) s = incOperand r s := by
  cases r with
  | reg q => cases q <;> rfl
  | atHL => rfl

theorem exec_decReg (r : Opd8) (s : State) : exec (.decReg r) s = decOperand r s := by
  cases r with
  | reg q => cases q <;> rfl
  | atHL => rfl

theorem encode_wordArithmetic (rr : Reg16) :
    encode (.incWide rr) = [BitVec.ofNat 8 (0x03 + 16 * rr.code)] ∧
    encode (.decWide rr) = [BitVec.ofNat 8 (0x0B + 16 * rr.code)] ∧
    encode (.addHl rr) = [BitVec.ofNat 8 (0x09 + 16 * rr.code)] := by
  cases rr <;> exact ⟨rfl, rfl, rfl⟩

/-- Settles O40: C and PC are untouched by the operand's two accesses, and a failing access of `(HL)` ends the instruction. -/
theorem byteIncrementAndDecrement : Obligations.ByteIncrementAndDecrement := by
  unfold Obligations.ByteIncrementAndDecrement
  refine ⟨fun r => ⟨encode_incReg r, encode_decReg r⟩, fun r s s' t v hr => ⟨fun hw => ?_, fun hw => ?_⟩,
    fun s info bus h => ?_, fun s info bus h => ?_, fun s v info bus₁ bus₂ hr => ⟨fun hw => ?_, fun hw => ?_⟩⟩
  · rw [exec_incReg, incOperand_of hr (add_one_eq_ofNat v ▸ hw)]
  · rw [exec_decReg, decOperand_of hr (sub_one_eq_ofNat v ▸ hw)]
  · rw [exec_incReg]
    exact read8_of_fail h
  · rw [exec_decReg]
    exact read8_of_fail h
  · rw [exec_incReg]
    exact readModifyWrite_of_failingWrite (g := fun v _ => v + 1) hr hw
  · rw [exec_decReg]
    exact readModifyWrite_of_failingWrite (g := fun v _ => v - 1) hr hw

/-- Settles O41: each constructor means, by definition, the word form of its register or pair, and none of the three forms
has an access that could fail. -/
theorem wordArithmetic : Obligations.WordArithmetic := by
  unfold Obligations.WordArithmetic
  refine ⟨encode_wordArithmetic, fun p s => ?_, fun s => ⟨incWide_eq .sp s, decWide_eq .sp s, addHl_eq .sp s⟩⟩
  cases p with
  | bc => exact ⟨incWide_eq .bc s, decWide_eq .bc s, addHl_eq .bc s⟩
  | de => exact ⟨incWide_eq .de s, decWide_eq .de s, addHl_eq .de s⟩
  | hl => exact ⟨incWide_eq .hl s, decWide_eq .hl s, addHl_eq .hl s⟩

end Sys2Proof
end

section
/-! CCF, SCF and CPL (spec/43_flag_ops.md): the complement of a byte in integers, and the three meanings, which have no
access (rules R150 to R152). -/

namespace Sys2Proof.Machine

theorem not_eq_ofNat (v : Byte) : ~~~v = BitVec.ofNat 8 (255 - v.toNat) :=
  eq_ofNat_of_toNat_eq BitVec.toNat_not

/-- Rule R150: Z is kept, and PC goes past the one byte. -/
theorem complementCarry_eq (s : State) :
    complementCarry s = .next { s with flags := ⟨s.flags.z, false, false, !s.flags.c⟩, pc := s.pc + 1 } :=
  rfl

/-- Rule R151: Z is kept, and PC goes past the one byte. -/
theorem setCarry_eq (s : State) :
    setCarry s = .next { s with flags := ⟨s.flags.z, false, false, true⟩, pc := s.pc + 1 } :=
  rfl

/-- Rule R152 in integers: Z and C are kept. -/
theorem complementA_eq (s : State) :
    complementA s = .next { s with
      regs := { s.regs with a := BitVec.ofNat 8 (255 - s.regs.a.toNat) }
      flags := ⟨s.flags.z, true, true, s.flags.c⟩
      pc := s.pc + 1 } := by
  rw [complementA, not_eq_ofNat]
  rfl

end Sys2Proof.Machine

namespace Sys2Proof

open Machine

/-- Settles O42: each constructor means, by definition, its flag operation, and none of the three has an access that could
fail. -/
theorem carryAndComplement : Obligations.CarryAndComplement := by
  unfold Obligations.CarryAndComplement
  exact ⟨rfl, rfl, rfl, fun s => ⟨complementCarry_eq s, setCarry_eq s, complementA_eq s⟩⟩

end Sys2Proof
end

section
/-! The rotates and shifts (spec/44_rotate_shift.md): the byte and the carry each leaves in integers, the accumulator forms,
which have no access (rules R160 to R163), and the forms of a register or `(HL)` (rules R164 to R171). -/

namespace Sys2Proof.Machine

/-! ### Bits and shifted bytes in integers -/

theorem toNat_getLsbD (v : Byte) (k : Nat) : (v.getLsbD k).toNat = v.toNat / 2 ^ k % 2 := by
  rw [← BitVec.testBit_toNat, Nat.toNat_testBit]

theorem getLsbD_zero_eq (v : Byte) : v.getLsbD 0 = decide (v.toNat % 2 = 1) := by
  rw [← BitVec.testBit_toNat, Nat.testBit_zero]

theorem getLsbD_seven_eq (v : Byte) : v.getLsbD 7 = decide (128 ≤ v.toNat) :=
  (BitVec.msb_eq_getLsbD_last v).symm.trans (BitVec.msb_eq_decide v)

theorem toNat_getLsbD_zero (v : Byte) : (v.getLsbD 0).toNat = v.toNat % 2 := by
  rw [toNat_getLsbD, Nat.pow_zero, Nat.div_one]

theorem toNat_getLsbD_seven (v : Byte) : (v.getLsbD 7).toNat = v.toNat / 128 := by
  have hv : v.toNat < 256 := v.isLt
  rw [toNat_getLsbD]
  omega

theorem toNat_shiftLeft_one (v : Byte) : (v <<< 1).toNat = 2 * v.toNat % 256 := by
  rw [BitVec.toNat_shiftLeft, Nat.shiftLeft_eq, Nat.mul_comm]

theorem toNat_ushiftRight_one (v : Byte) : (v >>> 1).toNat = v.toNat / 2 := rfl

theorem toNat_bitByte_shiftLeft_seven (b : Bool) : (bitByte b <<< 7).toNat = 128 * b.toNat := by cases b <;> rfl

/-- Two bytes without a common bit, one with zeros below bit `k` and one below `2 ^ k`, are put together as by a sum. -/
theorem toNat_or_of_lt {x y : Byte} {k n : Nat} (hx : x.toNat = 2 ^ k * n) (hy : y.toNat < 2 ^ k) :
    (x ||| y).toNat = x.toNat + y.toNat := by
  rw [BitVec.toNat_or, hx, Nat.two_pow_add_eq_or_of_lt hy]

/-- A bit put into the place that a shift to the left vacates. -/
theorem toNat_shiftLeft_one_or_bit (v : Byte) (b : Bool) :
    ((v <<< 1) ||| bitByte b).toNat = (2 * v.toNat + b.toNat) % 256 := by
  have hb : b.toNat ≤ 1 := b.toNat_le
  have hx : (v <<< 1).toNat = 2 ^ 1 * (v.toNat % 128) := by
    rw [toNat_shiftLeft_one]
    omega
  rw [toNat_or_of_lt hx (by rw [toNat_bitByte]; omega), hx, toNat_bitByte]
  omega

/-- A bit put into the place that a shift to the right vacates. -/
theorem toNat_ushiftRight_one_or_bit (v : Byte) (b : Bool) :
    ((v >>> 1) ||| (bitByte b <<< 7)).toNat = v.toNat / 2 + 128 * b.toNat := by
  have hv : (v >>> 1).toNat < 2 ^ 7 := by
    rw [toNat_ushiftRight_one]
    omega
  rw [BitVec.or_comm, toNat_or_of_lt (toNat_bitByte_shiftLeft_seven b) hv, toNat_bitByte_shiftLeft_seven,
    toNat_ushiftRight_one, Nat.add_comm]

/-- The sign bit by itself, as SRA keeps it. -/
theorem and_signBit_eq (v : Byte) : v &&& (0x80 : Byte) = bitByte (v.getLsbD 7) <<< 7 := by
  apply BitVec.eq_of_toNat_eq
  rw [toNat_bitByte_shiftLeft_seven, ← BitVec.testBit_toNat, Nat.mul_comm]
  exact Nat.and_two_pow v.toNat 7

/-- The nibbles exchanged: the low one goes to a multiple of 16, the high one below 16. -/
theorem toNat_swapped (v : Byte) :
    (((v &&& 0xF) <<< 4) ||| ((v &&& 0xF0) >>> 4)).toNat = v.toNat / 16 + 16 * (v.toNat % 16) := by
  have hv : v.toNat < 256 := v.isLt
  have hhigh : ((v &&& 0xF) <<< 4).toNat = 2 ^ 4 * (v.toNat % 16) := by
    rw [BitVec.toNat_shiftLeft, toNat_and_lowNibble]
    omega
  have hlow : ((v &&& 0xF0) >>> 4).toNat = v.toNat / 16 := by
    rw [BitVec.ushiftRight_and_distrib]
    change ((v >>> 4) &&& 0xF).toNat = _
    rw [toNat_and_lowNibble, BitVec.toNat_ushiftRight]
    omega
  rw [toNat_or_of_lt hhigh (by omega), hhigh, hlow]
  omega

/-! ### The eight operations -/

/-- The byte that each operation leaves, in integers. -/
theorem toNat_rotOut (op : RotOp) (v : Byte) (cin : Bool) : (rotOut op v cin).1.toNat = op.value v.toNat cin.toNat := by
  cases op with
  | rlc => exact (toNat_shiftLeft_one_or_bit v _).trans (by rw [toNat_getLsbD_seven]; rfl)
  | rrc => exact (toNat_ushiftRight_one_or_bit v _).trans (by rw [toNat_getLsbD_zero]; rfl)
  | rl => exact toNat_shiftLeft_one_or_bit v cin
  | rr => exact toNat_ushiftRight_one_or_bit v cin
  | sla => exact toNat_shiftLeft_one v
  | sra =>
    -- SRA fills the vacated place with a copy of the sign bit
    rw [rotOut, and_signBit_eq, toNat_ushiftRight_one_or_bit, toNat_getLsbD_seven]
    rfl
  | swap => exact toNat_swapped v
  | srl => exact toNat_ushiftRight_one v

theorem rotOut_fst (op : RotOp) (v : Byte) (cin : Bool) :
    (rotOut op v cin).1 = BitVec.ofNat 8 (op.value v.toNat cin.toNat) :=
  eq_ofNat_of_toNat_eq (toNat_rotOut op v cin)

/-- The bit that leaves the byte: bit 7 to the left and bit 0 to the right. -/
theorem rotOut_snd (op : RotOp) (v : Byte) (cin : Bool) : (rotOut op v cin).2 = op.carryLeft v.toNat := by
  cases op with
  | rlc | rl | sla => exact getLsbD_seven_eq v
  | rrc | rr | sra | srl => exact getLsbD_zero_eq v
  | swap => rfl

theorem rotOut_fst_beq_zero (op : RotOp) (v : Byte) (cin : Bool) :
    ((rotOut op v cin).1 == 0) = (op.value v.toNat cin.toNat == 0) :=
  beq_zero_of_toNat_eq (toNat_rotOut op v cin)

/-! ### The accumulator and the operand forms -/

/-- Rules R160 to R163 in integers: Z is cleared whatever the result. -/
theorem rotateA_eq (op : RotOp) (s : State) :
    rotateA op s = .next { s with
      regs := { s.regs with a := BitVec.ofNat 8 (op.value s.regs.a.toNat s.flags.c.toNat) }
      flags := ⟨false, false, false, op.carryLeft s.regs.a.toNat⟩
      pc := s.pc + 1 } := by
  rw [rotateA, rotOut_fst, rotOut_snd]
  rfl

variable {s s' t : State} {r : Opd8} {v : Byte} {info : Nat} {bus₁ bus₂ : Bus}

/-- Rules R164 to R171 with both accesses served. -/
theorem rotateOperand_of {op : RotOp} (hr : ReadsOperand s r v s')
    (hw : WritesOperand s' r (BitVec.ofNat 8 (op.value v.toNat s.flags.c.toNat)) t) :
    rotateOperand op r s = .next { t with
      flags := ⟨op.value v.toNat s.flags.c.toNat == 0, false, false, op.carryLeft v.toNat⟩
      pc := s.pc + 2 } := by
  obtain ⟨-, hpc⟩ := flags_pc_of_readModifyWrite hr hw
  obtain ⟨-, hflags, -, -, -⟩ := hr.keeps
  rw [← rotOut_fst, ← hflags] at hw
  rw [rotateOperand, readModifyWrite_of (g := fun v s => (rotOut op v s.flags.c).1) hr hw, hflags, rotOut_fst_beq_zero,
    rotOut_snd, ← hpc]
  rfl

/-- Rules R164 to R171 at `(HL)` with a failing write: the byte that was to be written is the result. -/
theorem rotateOperand_of_failingWrite {op : RotOp} (hr : s.bus.read (s.pair .hl) = .byte v bus₁)
    (hw : bus₁.write (s.pair .hl) (BitVec.ofNat 8 (op.value v.toNat s.flags.c.toNat)) = .fail info bus₂) :
    rotateOperand op .atHL s =
      .fault (.busFailure .write (s.pair .hl) (some (BitVec.ofNat 8 (op.value v.toNat s.flags.c.toNat))) info bus₂) := by
  rw [← rotOut_fst] at hw ⊢
  exact readModifyWrite_of_failingWrite (bus₁ := bus₁) (g := fun v s => (rotOut op v s.flags.c).1) hr hw

end Sys2Proof.Machine

namespace Sys2Proof

open Machine

/-! ### The instructions -/

theorem encode_rotate (op : RotOp) (r : Opd8) :
    encode (.rotate op r) = [0xCB, BitVec.ofNat 8 (8 * op.code + r.code)] := by
  cases r with
  | reg q => cases op <;> cases q <;> rfl
  | atHL => cases op <;> rfl

theorem exec_rotate (op : RotOp) (r : Opd8) (s : State) : exec (.rotate op r) s = rotateOperand op r s := by
  cases r with
  | reg q => cases op <;> cases q <;> rfl
  | atHL => cases op <;> rfl

/-- Settles O43: each constructor means, by definition, its rotate of A, which has no access that could fail. -/
theorem accumulatorRotates : Obligations.AccumulatorRotates := by
  unfold Obligations.AccumulatorRotates
  simp only [List.forall_mem_cons, List.not_mem_nil, false_imp_iff, implies_true, and_true]
  exact ⟨⟨rfl, rotateA_eq .rlc⟩, ⟨rfl, rotateA_eq .rrc⟩, ⟨rfl, rotateA_eq .rl⟩, ⟨rfl, rotateA_eq .rr⟩⟩

/-- Settles O44: the read changes at most the bus, so the operation runs on the carry as it was before it, and a failing
access of `(HL)` ends the instruction. -/
theorem rotatesAndShifts : Obligations.RotatesAndShifts := by
  unfold Obligations.RotatesAndShifts
  intro op r
  refine ⟨encode_rotate op r, fun s s' t v hr hw => ?_, fun s info bus h => ?_, fun s v info bus₁ bus₂ hr hw => ?_⟩
  · rw [exec_rotate]
    exact rotateOperand_of hr hw
  · rw [exec_rotate]
    exact read8_of_fail h
  · rw [exec_rotate]
    exact rotateOperand_of_failingWrite hr hw

end Sys2Proof
end

section
/-! BIT, RES and SET (spec/45_bit.md): a bit of a byte and the byte with the bit cleared or set, in integers, and the operand
forms with both accesses served (rules R180 to R182). -/

namespace Sys2Proof.Machine

/-! ### One bit of a byte -/

theorem getLsbD_shiftLeft_bit (b : Fin 8) (k : Nat) : ((1 : Byte) <<< b.val).getLsbD k = decide (k = b.val) := by
  change (BitVec.twoPow 8 b.val).getLsbD k = _
  simp [BitVec.getLsbD_twoPow, eq_comm]

theorem toNat_shiftLeft_bit (b : Fin 8) : ((1 : Byte) <<< b.val).toNat = 2 ^ b.val :=
  BitVec.toNat_twoPow_of_lt b.isLt

theorem not_getLsbD_eq (v : Byte) (k : Nat) : (!v.getLsbD k) = (v.toNat / 2 ^ k % 2 == 0) := by
  rw [← toNat_getLsbD]
  cases v.getLsbD k <;> rfl

/-- A mask takes a byte apart into what it shuts out and what it lets through. -/
theorem toNat_and_not_add_and (v m : Byte) : (v &&& ~~~m).toNat + (v &&& m).toNat = v.toNat := by
  have hdisjoint : (v &&& ~~~m) &&& (v &&& m) = 0 := by
    ext k
    simp +contextual
  rw [← BitVec.toNat_add_of_and_eq_zero hdisjoint, BitVec.add_eq_or_of_and_eq_zero _ _ hdisjoint,
    ← BitVec.and_or_distrib_left, BitVec.not_or_self, BitVec.and_allOnes]

/-- Setting bits puts the mask beside what it shuts out. -/
theorem toNat_or_eq_and_not_add (v m : Byte) : (v ||| m).toNat = (v &&& ~~~m).toNat + m.toNat := by
  have hdisjoint : (v &&& ~~~m) &&& m = 0 := by
    ext k
    simp
  rw [← BitVec.toNat_add_of_and_eq_zero hdisjoint, BitVec.add_eq_or_of_and_eq_zero _ _ hdisjoint]
  congr 1
  ext k
  cases hm : m[k] <;> simp [hm]

theorem toNat_and_shiftLeft_bit (v : Byte) (b : Fin 8) :
    (v &&& ((1 : Byte) <<< b.val)).toNat = v.toNat / 2 ^ b.val % 2 * 2 ^ b.val := by
  rw [BitVec.toNat_and, toNat_shiftLeft_bit, Nat.and_two_pow, Nat.toNat_testBit]

/-- Rule R181 in integers: the place value goes away where the bit was 1. -/
theorem toNat_clearBit (v : Byte) (b : Fin 8) :
    (v &&& ~~~((1 : Byte) <<< b.val)).toNat = v.toNat - v.toNat / 2 ^ b.val % 2 * 2 ^ b.val := by
  have hparts := toNat_and_not_add_and v ((1 : Byte) <<< b.val)
  rw [toNat_and_shiftLeft_bit] at hparts
  omega

/-- Rule R182 in integers: the place value is added where the bit was 0. -/
theorem toNat_setBit (v : Byte) (b : Fin 8) :
    (v ||| ((1 : Byte) <<< b.val)).toNat = v.toNat + (1 - v.toNat / 2 ^ b.val % 2) * 2 ^ b.val := by
  have hparts := toNat_and_not_add_and v ((1 : Byte) <<< b.val)
  rw [toNat_and_shiftLeft_bit] at hparts
  rw [toNat_or_eq_and_not_add, toNat_shiftLeft_bit]
  rcases Nat.mod_two_eq_zero_or_one (v.toNat / 2 ^ b.val) with hbit | hbit <;> rw [hbit] at hparts ⊢ <;> omega

/-- The byte that RES writes, by its bits. -/
theorem clearBit_eq_of_getLsbD {v v' : Byte} {b : Fin 8}
    (h : ∀ k < 8, v'.getLsbD k = (v.getLsbD k && decide (k ≠ b.val))) : v &&& ~~~((1 : Byte) <<< b.val) = v' := by
  apply BitVec.eq_of_getLsbD_eq
  intro k hk
  rw [h k hk, BitVec.getLsbD_and, BitVec.getLsbD_not, getLsbD_shiftLeft_bit]
  simp [hk]

/-- The byte that SET writes, by its bits. -/
theorem setBit_eq_of_getLsbD {v v' : Byte} {b : Fin 8}
    (h : ∀ k < 8, v'.getLsbD k = (v.getLsbD k || decide (k = b.val))) : v ||| ((1 : Byte) <<< b.val) = v' := by
  apply BitVec.eq_of_getLsbD_eq
  intro k hk
  rw [h k hk, BitVec.getLsbD_or, getLsbD_shiftLeft_bit]

/-! ### The operand forms -/

variable {s s' t u : State} {r : Opd8} {v v' : Byte} {b : Fin 8} {info : Nat} {bus₁ bus₂ : Bus}

/-- Every operand of a state on the flat RAM reads, and the read changes nothing. -/
theorem exists_readsOperand_of_flat (hf : s.FlatRam) (r : Opd8) : ∃ v, ReadsOperand s r v s := by
  cases r with
  | reg q => exact ⟨s.reg q, rfl, rfl⟩
  | atHL => exact ⟨s.bus.peek (s.pair .hl), s.bus, Bus.read_flat hf _, rfl⟩

/-- The read of an operand does not look at the flags or PC. -/
theorem ReadsOperand.withFlagsPc (h : ReadsOperand s r v s') (f : Flags) (w : Word) :
    ReadsOperand { s with flags := f, pc := w } r v { s' with flags := f, pc := w } := by
  cases r with
  | reg q =>
    obtain ⟨hv, rfl⟩ := h
    exact ⟨hv, rfl⟩
  | atHL =>
    obtain ⟨bus, hread, rfl⟩ := h
    exact ⟨bus, hread, rfl⟩

/-- Rule R180 with the read served. -/
theorem testBit_of (b : Fin 8) (h : ReadsOperand s r v s') :
    testBit b r s = .next { s' with
      flags := ⟨v.toNat / 2 ^ b.val % 2 == 0, false, true, s.flags.c⟩
      pc := s.pc + 2 } := by
  obtain ⟨-, hflags, hpc, -, -⟩ := h.keeps
  rw [testBit, read8_of h, bitFlags, not_getLsbD_eq, hflags, ← hpc]
  rfl

/-- On the flat RAM the operand reads the same before and after BIT, and C is kept, so a second BIT finds the same flags. -/
theorem testBit_twice (hf : s.FlatRam) (ht : testBit b r s = .next t) (hu : testBit b r t = .next u) :
    t.flags = u.flags ∧ t.regs = s.regs ∧ t.bus = s.bus := by
  obtain ⟨v, hv⟩ := exists_readsOperand_of_flat hf r
  rw [testBit_of b hv] at ht
  cases ht
  rw [testBit_of b (hv.withFlagsPc _ _)] at hu
  cases hu
  exact ⟨rfl, rfl, rfl⟩

/-- An operand read and written back, both served, by an instruction that sets no flag. -/
theorem modifyOperand_of {g : Byte → Byte} (hr : ReadsOperand s r v s') (hw : WritesOperand s' r (g v) t) :
    (read8 s r fun v s₁ => write8 s₁ r (g v) fun s₂ => advance 2 s₂) = .next { t with pc := s.pc + 2 } := by
  obtain ⟨-, hpc⟩ := flags_pc_of_readModifyWrite hr hw
  rw [readModifyWrite_of (g := fun v _ => g v) hr hw fun _ _ s₂ => advance 2 s₂, ← hpc]
  rfl

/-- Rule R181 with both accesses served. -/
theorem resetBit_of (hr : ReadsOperand s r v s')
    (hw : WritesOperand s' r (BitVec.ofNat 8 (v.toNat - v.toNat / 2 ^ b.val % 2 * 2 ^ b.val)) t) :
    resetBit b r s = .next { t with pc := s.pc + 2 } := by
  rw [← eq_ofNat_of_toNat_eq (toNat_clearBit v b)] at hw
  exact modifyOperand_of (g := fun v => v &&& ~~~((1 : Byte) <<< b.val)) hr hw

/-- Rule R182 with both accesses served. -/
theorem setBit_of (hr : ReadsOperand s r v s')
    (hw : WritesOperand s' r (BitVec.ofNat 8 (v.toNat + (1 - v.toNat / 2 ^ b.val % 2) * 2 ^ b.val)) t) :
    setBit b r s = .next { t with pc := s.pc + 2 } := by
  rw [← eq_ofNat_of_toNat_eq (toNat_setBit v b)] at hw
  exact modifyOperand_of (g := fun v => v ||| ((1 : Byte) <<< b.val)) hr hw

/-- Rule R181 at `(HL)` with a failing write, which is tried whether or not the bit changes. -/
theorem resetBit_of_failingWrite (hr : s.bus.read (s.pair .hl) = .byte v bus₁)
    (hbits : ∀ k < 8, v'.getLsbD k = (v.getLsbD k && decide (k ≠ b.val)))
    (hw : bus₁.write (s.pair .hl) v' = .fail info bus₂) :
    resetBit b .atHL s = .fault (.busFailure .write (s.pair .hl) (some v') info bus₂) := by
  rw [← clearBit_eq_of_getLsbD hbits] at hw ⊢
  exact readModifyWrite_of_failingWrite (g := fun v _ => v &&& ~~~((1 : Byte) <<< b.val)) hr hw

/-- Rule R182 at `(HL)` with a failing write, which is tried whether or not the bit changes. -/
theorem setBit_of_failingWrite (hr : s.bus.read (s.pair .hl) = .byte v bus₁)
    (hbits : ∀ k < 8, v'.getLsbD k = (v.getLsbD k || decide (k = b.val)))
    (hw : bus₁.write (s.pair .hl) v' = .fail info bus₂) :
    setBit b .atHL s = .fault (.busFailure .write (s.pair .hl) (some v') info bus₂) := by
  rw [← setBit_eq_of_getLsbD hbits] at hw ⊢
  exact readModifyWrite_of_failingWrite (g := fun v _ => v ||| ((1 : Byte) <<< b.val)) hr hw

end Sys2Proof.Machine

namespace Sys2Proof

open Machine

/-! ### The instructions -/

theorem encode_bitRows (b : Fin 8) (r : Opd8) :
    encode (.bitTest b r) = [0xCB, BitVec.ofNat 8 (0x40 + 8 * b.val + r.code)] ∧
    encode (.bitRes b r) = [0xCB, BitVec.ofNat 8 (0x80 + 8 * b.val + r.code)] ∧
    encode (.bitSet b r) = [0xCB, BitVec.ofNat 8 (0xC0 + 8 * b.val + r.code)] := by
  cases r with
  | reg q => fin_cases b <;> cases q <;> exact ⟨rfl, rfl, rfl⟩
  | atHL => fin_cases b <;> exact ⟨rfl, rfl, rfl⟩

theorem exec_bitTest (b : Fin 8) (r : Opd8) (s : State) : exec (.bitTest b r) s = testBit b r s := by
  cases r with
  | reg q => fin_cases b <;> cases q <;> rfl
  | atHL => fin_cases b <;> rfl

theorem exec_bitRes (b : Fin 8) (r : Opd8) (s : State) : exec (.bitRes b r) s = resetBit b r s := by
  cases r with
  | reg q => fin_cases b <;> cases q <;> rfl
  | atHL => fin_cases b <;> rfl

theorem exec_bitSet (b : Fin 8) (r : Opd8) (s : State) : exec (.bitSet b r) s = setBit b r s := by
  cases r with
  | reg q => fin_cases b <;> cases q <;> rfl
  | atHL => fin_cases b <;> rfl

/-- Settles O45: the read changes at most the bus and no operand is written, so on the flat RAM a second run reads the same
byte. -/
theorem bitTest : Obligations.BitTest := by
  unfold Obligations.BitTest
  intro b r
  obtain ⟨hencode, -, -⟩ := encode_bitRows b r
  simp only [FailsWithTheOperandRead, exec_bitTest]
  exact ⟨hencode, fun s s' v => testBit_of b, fun s t u => testBit_twice, fun s info bus => read8_of_fail⟩

/-- Settles O46: the byte that is written is the one read with its bit cleared or set, whatever the bit was, and no flag is
touched. -/
theorem bitResetAndSet : Obligations.BitResetAndSet := by
  unfold Obligations.BitResetAndSet
  intro b r
  obtain ⟨-, hencodeRes, hencodeSet⟩ := encode_bitRows b r
  simp only [FailsWithTheOperandRead, exec_bitRes, exec_bitSet]
  exact ⟨hencodeRes, hencodeSet, fun s s' t v hr => ⟨resetBit_of hr, setBit_of hr⟩, fun s info bus => read8_of_fail,
    fun s info bus => read8_of_fail, fun s v v' info bus₁ bus₂ hr hw =>
      ⟨fun hbits => resetBit_of_failingWrite hr hbits hw, fun hbits => setBit_of_failingWrite hr hbits hw⟩⟩

end Sys2Proof
end

section
/-! A failing read of an instruction byte after the opcode (spec/20_memory.md rule R57, spec/60_exceptions.md rule R304): it
ends the step of every well-formed instruction that is not refused, by the clauses of `failingFetchEndsTheStep` and the rows
of the opcode maps. -/

namespace Sys2Proof

open Machine

variable {i : Instr} {s : State} {bus bus' : Bus} {own : List Byte} {k info : Nat}

theorem gkOps_of_admitted (h : Admitted i s) (hg : i.tier = .g) : s.params.gkOps = .admitG := by
  rcases h with h | ⟨-, h⟩
  · cases h.symm.trans hg
  · exact h

/-- The reads of a row up to the one that fails: its second byte or its third. -/
theorem RowBytes.step_of_failingImmediateRead (hrow : RowBytes own i) (hs : s.status = .running)
    (hg : i.tier = .g → s.params.gkOps = .admitG) (hk : 0 < k) (hlen : k < own.length)
    (hr : s.bus.ReadsBytes s.pc (own.take k) bus) (hf : bus.read (s.pc + BitVec.ofNat 16 k) = .fail info bus') :
    step s = .fault (.busFailure .read (s.pc + BitVec.ofNat 16 k) none info bus') := by
  obtain ⟨-, hsecond, hthird⟩ := failingFetchEndsTheStep s info bus' hs
  cases hrow with
  | extended b1 =>
    obtain rfl : k = 1 := Nat.le_antisymm (Nat.le_of_lt_succ hlen) hk
    obtain ⟨bus₁, h₁, rfl⟩ := hr
    exact hsecond _ _ h₁ hf (.inl rfl)
  | noOperand => exact absurd hk (Nat.not_lt.mpr (Nat.le_of_lt_succ hlen))
  | @oneOperand b0 lo hc =>
    have hn : operandCount b0 ≠ 0 := by omega
    have ht : (decodeBase b0 lo 0).tier = byteTier b0 := tier_decodeBase (ne_prefixByte_of_operandCount hn) lo 0
    obtain rfl : k = 1 := Nat.le_antisymm (Nat.le_of_lt_succ hlen) hk
    obtain ⟨bus₁, h₁, rfl⟩ := hr
    exact hsecond _ _ h₁ hf (.inr ⟨hn, ht ▸ hg⟩)
  | @twoOperands b0 lo hi hc =>
    have hn : operandCount b0 ≠ 0 := by omega
    have ht : (decodeBase b0 lo hi).tier = byteTier b0 := tier_decodeBase (ne_prefixByte_of_operandCount hn) lo hi
    have hlen : k < 3 := hlen
    obtain rfl | rfl : k = 1 ∨ k = 2 := by omega
    · obtain ⟨bus₁, h₁, rfl⟩ := hr
      exact hsecond _ _ h₁ hf (.inr ⟨hn, ht ▸ hg⟩)
    · obtain ⟨bus₁, h₁, bus₂, h₂, rfl⟩ := hr
      exact hthird _ _ _ _ h₁ h₂ hf hc (ht ▸ hg)

theorem failsWithItsImmediateRead (h : i.wellFormed = true) : FailsWithItsImmediateRead i :=
  fun _ _ _ _ _ hs ha => (rowBytes_encode h).step_of_failingImmediateRead hs (gkOps_of_admitted ha)

end Sys2Proof
end

section
/-! The jumps (spec/46_control.md rules R190 to R194) and the self-loop they make (spec/70_reset_and_hazards.md rule
R336 (c)). -/

namespace Sys2Proof.Machine

variable {s start : State} {bus bus' : Bus} {m n : Nat}

/-! ### Where a jump goes -/

/-- Rule R191: the target, or the next instruction. -/
theorem jumpIf_eq (cc : Cond) (w : Word) (s : State) :
    jumpIf cc w s = .next { s with pc := if condHolds s.flags cc then w else s.pc + 3 } := by
  cases h : condHolds s.flags cc with
  | true =>
    rw [jumpIf, h]
    rfl
  | false => exact jumpIf_of_not h w

/-- PC, two bytes on, plus a signed displacement, as an integer modulo 65536. -/
theorem add_two_add_sext16 (pc : Word) (e : Byte) : pc + 2 + sext16 e = BitVec.ofInt 16 (pc.toNat + 2 + e.toInt) := by
  rw [BitVec.ofInt_add, BitVec.ofInt_add, BitVec.ofInt_natCast, BitVec.ofNat_toNat, BitVec.setWidth_eq]
  rfl

/-- Rule R192 in integers. -/
theorem jumpRel_eq (e : Byte) (s : State) :
    jumpRel e s = .next { s with pc := BitVec.ofInt 16 (s.pc.toNat + 2 + e.toInt) } := by
  rw [jumpRel, add_two_add_sext16]
  rfl

/-- Rule R193 in integers: a jump that is not taken is one by 0. -/
theorem jumpRelIf_eq (cc : Cond) (e : Byte) (s : State) :
    jumpRelIf cc e s = .next { s with
      pc := BitVec.ofInt 16 (s.pc.toNat + 2 + if condHolds s.flags cc then e.toInt else 0) } := by
  cases h : condHolds s.flags cc with
  | true =>
    rw [jumpRelIf, h]
    exact jumpRel_eq e s
  | false =>
    have hnext : s.pc + 2 = BitVec.ofInt 16 (s.pc.toNat + 2 + 0) :=
      (BitVec.add_zero _).symm.trans (add_two_add_sext16 s.pc 0)
    rw [jumpRelIf_of_not h, if_neg Bool.false_ne_true, ← hnext]
    rfl

/-! ### The self-loop -/

/-- Reading bytes leaves the RAM as it was, and the flat RAM altogether. -/
theorem Bus.ReadsBytes.keeps {bytes : List Byte} {a : Word} (h : bus.ReadsBytes a bytes bus') :
    bus'.cells = bus.cells ∧ (bus.FlatRam → bus' = bus) := by
  induction bytes generalizing bus a with
  | nil =>
    cases h
    exact ⟨rfl, fun _ => rfl⟩
  | cons v rest ih =>
    obtain ⟨bus₁, hread, hrest⟩ := h
    obtain ⟨hcells, hflat⟩ := ih hrest
    refine ⟨hcells.trans (Bus.read_byte hread).1, fun hf => ?_⟩
    rw [Bus.read_flat hf] at hread
    cases hread
    exact hflat hf

/-- The two instructions of a self-loop: `JR -2`, and `JP` to the address of its own first byte. -/
def IsSelfLoop (pc : Word) (i : Instr) : Prop := i = .jr_e8 0xFE ∨ i = .jp_a16 pc

/-- At a self-loop the bus gives the fetch the bytes of one of the two (log entry 14). -/
theorem State.readsBytes_of_atSelfLoop (h : s.atSelfLoop = true) :
    ∃ i bus, IsSelfLoop s.pc i ∧ s.bus.ReadsBytes s.pc (encode i) bus := by
  unfold State.atSelfLoop at h
  split at h
  · cases h
  next b0 bus₀ h₀ =>
    split at h
    · cases h
    next b1 bus₁ h₁ =>
      split_ifs at h with hjr hjp
      · subst hjr
        obtain rfl : b1 = 0xFE := beq_iff_eq.mp h
        exact ⟨_, bus₁, .inl rfl, bus₀, h₀, bus₁, h₁, rfl⟩
      · subst hjp
        split at h
        · cases h
        next b2 bus₂ h₂ =>
          have hpc : joinBytes b2 b1 = s.pc := beq_iff_eq.mp h
          have hlo : lo8 s.pc = b1 := hpc ▸ lo8_joinBytes b2 b1
          have hhi : hi8 s.pc = b2 := hpc ▸ hi8_joinBytes b2 b1
          have haddr : s.pc + 1 + 1 = s.pc + 2 := BitVec.add_assoc s.pc 1 1
          exact ⟨_, bus₂, .inr rfl, bus₀, h₀, bus₁, hlo ▸ h₁, bus₂, haddr ▸ hhi ▸ h₂, rfl⟩

theorem IsSelfLoop.wellFormed_tier {pc : Word} {i : Instr} (h : IsSelfLoop pc i) : i.wellFormed = true ∧ i.tier = .s := by
  rcases h with rfl | rfl <;> exact ⟨rfl, rfl⟩

/-- Each of the two jumps to where it stands. -/
theorem IsSelfLoop.exec_eq {i : Instr} (h : IsSelfLoop s.pc i) : exec i s = .next s := by
  rcases h with rfl | rfl
  · have hback : s.pc + 2 + sext16 0xFE = s.pc := (BitVec.add_assoc s.pc 2 _).trans (BitVec.add_zero s.pc)
    calc exec (.jr_e8 0xFE) s = jumpTo (s.pc + 2 + sext16 0xFE) s := rfl
      _ = jumpTo s.pc s := by rw [hback]
      _ = .next s := rfl
  · rfl

/-- A step at a self-loop does no more than fetch it. -/
theorem step_of_atSelfLoop (hs : s.status = .running) (h : s.atSelfLoop = true) :
    ∃ bus, step s = .next (s.setBus bus) ∧ bus.cells = s.bus.cells ∧ (s.FlatRam → bus = s.bus) := by
  obtain ⟨i, bus, hloop, hr⟩ := State.readsBytes_of_atSelfLoop h
  obtain ⟨hw, ht⟩ := hloop.wellFormed_tier
  have hg : i.tier = .g → s.params.gkOps = .admitG := by
    rw [ht]
    nofun
  have hexec : exec i (s.setBus bus) = .next (s.setBus bus) := IsSelfLoop.exec_eq hloop
  exact ⟨bus, (step_of_readsBytes hs hw hg hr).trans hexec, hr.keeps⟩

/-! ### The end of a run -/

theorem State.atEndOfRun_of_atSelfLoop (h : s.atSelfLoop = true) : s.atEndOfRun = true := by
  unfold State.atEndOfRun
  split
  · rfl
  · exact h

/-- A run ends at its first boundary that is an end of run, if the step bound reaches so far. -/
theorem State.runFrom_of_firstEnd (hm : m ≤ n) (hend : (start.requests m).atEndOfRun = true)
    (hfirst : ∀ j < m, (start.requests j).atEndOfRun = false) :
    start.runFrom n = { steps := m, state := start.requests m } := by
  obtain ⟨hstate, hle, hbefore, hstop⟩ := State.runFrom_spec n start
  have hge : m ≤ (start.runFrom n).steps := by
    by_contra hlt
    rcases hstop with hstop | hstop
    · rw [hstate, hfirst _ (by omega)] at hstop
      cases hstop
    · omega
  have hsteps : (start.runFrom n).steps = m := by
    by_contra hne
    cases hend.symm.trans (hbefore m (by omega))
  rw [hsteps] at hstate
  rw [← hstate, ← hsteps]

end Sys2Proof.Machine

namespace Sys2Proof

open Machine

/-! ### The instructions -/

theorem encode_jumpIf (cc : Cond) (w : Word) :
    encode (.jumpIf cc w) = [BitVec.ofNat 8 (0xC2 + 8 * cc.code), lo8 w, hi8 w] := by
  cases cc <;> rfl

theorem encode_jumpRelIf (cc : Cond) (e : Byte) :
    encode (.jumpRelIf cc e) = [BitVec.ofNat 8 (0x20 + 8 * cc.code), e] := by
  cases cc <;> rfl

theorem wellFormed_jumpIf (cc : Cond) (w : Word) : (Instr.jumpIf cc w).wellFormed = true := by
  cases cc <;> rfl

theorem wellFormed_jumpRelIf (cc : Cond) (e : Byte) : (Instr.jumpRelIf cc e).wellFormed = true := by
  cases cc <;> rfl

theorem exec_jumpIf (cc : Cond) (w : Word) (s : State) : exec (.jumpIf cc w) s = jumpIf cc w s := by
  cases cc <;> rfl

theorem exec_jumpRelIf (cc : Cond) (e : Byte) (s : State) : exec (.jumpRelIf cc e) s = jumpRelIf cc e s := by
  cases cc <;> rfl

theorem exec_jp_HL (s : State) :
    exec .jp_HL s = .next { s with pc := BitVec.ofNat 16 (256 * s.regs.h.toNat + s.regs.l.toNat) } := by
  rw [ofNat_eq_joinBytes]
  rfl

/-- Settles O37: the bytes the fetch gets are a jump to PC, and a run ends at its first self-loop. -/
theorem selfLoopLeavesTheState : Obligations.SelfLoopLeavesTheState := by
  unfold Obligations.SelfLoopLeavesTheState
  intro s hs hloop
  obtain ⟨bus, hstep, hcells, hflat⟩ := step_of_atSelfLoop hs hloop
  refine ⟨⟨bus, hstep, hcells⟩, fun hf => ?_, fun start m n hm hreq hfirst => ?_⟩
  · rw [hflat hf, State.setBus_self] at hstep
    exact ⟨hstep, State.requests_eq_self (State.request_of_next hstep)⟩
  · have hend : (start.requests m).atEndOfRun = true := by
      rw [hreq]
      exact State.atEndOfRun_of_atSelfLoop hloop
    rw [State.runFrom_of_firstEnd hm hend hfirst, hreq]

/-- Settles O47: the target is a word the fetch has read, taken or not, or HL, and PC is all that a jump writes. -/
theorem absoluteJumps : Obligations.AbsoluteJumps := by
  unfold Obligations.AbsoluteJumps
  refine ⟨fun w => ⟨rfl, failsWithItsImmediateRead rfl, fun _ => rfl⟩, fun cc w => ?_, rfl, exec_jp_HL⟩
  refine ⟨encode_jumpIf cc w, failsWithItsImmediateRead (wellFormed_jumpIf cc w), fun s => ?_⟩
  rw [exec_jumpIf, jumpIf_eq]

/-- Settles O48: the displacement, which the fetch has read, taken or not, is added as a signed integer to the address of the
next instruction. -/
theorem relativeJumps : Obligations.RelativeJumps := by
  unfold Obligations.RelativeJumps
  refine ⟨fun e => ⟨rfl, failsWithItsImmediateRead rfl, jumpRel_eq e⟩, fun cc e => ?_⟩
  refine ⟨encode_jumpRelIf cc e, failsWithItsImmediateRead (wellFormed_jumpRelIf cc e), fun s => ?_⟩
  rw [exec_jumpRelIf, jumpRelIf_eq]

end Sys2Proof
end

section
/-! The loads (spec/47_loads.md): what each load and store leaves where its access is served, and the failure that ends it
where it is not (rules R200 to R219). -/

namespace Sys2Proof

/-- HL after `(HL+)` or `(HL-)` as an integer (rules R210 to R213). -/
def HlStep.nextNat (hl : Nat) : HlStep → Nat
  | .inc => (hl + 1) % 65536
  | .dec => (hl + 65535) % 65536

theorem HlStep.toNat_add_delta (d : HlStep) (w : Word) : (w + d.delta).toNat = d.nextNat w.toNat := by
  cases d with
  | inc | dec => exact BitVec.toNat_add ..

theorem MemOpd.len_eq (m : MemOpd) : m.len = BitVec.ofNat 16 (encode (.loadA m)).length := by
  cases m <;> rfl

end Sys2Proof

namespace Sys2Proof.Machine

variable {s : State} {a : Word} {v : Byte} {info : Nat} {bus : Bus}

/-! ### The loads and stores with a served or a failing access -/

theorem loadFrom_of_byte (h : s.bus.read a = .byte v bus) (r : Reg8) (len : Word) :
    loadFrom r a len s = .next { s with regs := s.regs.set r v, pc := s.pc + len, bus := bus } :=
  memRead_of_byte h

theorem loadFrom_of_fail (h : s.bus.read a = .fail info bus) (r : Reg8) (len : Word) :
    loadFrom r a len s = .fault (.busFailure .read a none info bus) :=
  memRead_of_fail h

theorem storeTo_of_done (h : s.bus.write a v = .done bus) (len : Word) :
    storeTo a v len s = .next { s with pc := s.pc + len, bus := bus } :=
  memWrite_of_done h

theorem storeTo_of_fail (h : s.bus.write a v = .fail info bus) (len : Word) :
    storeTo a v len s = .fault (.busFailure .write a (some v) info bus) :=
  memWrite_of_fail h

/-- The high byte goes to the high register of a pair and the low byte to the low one, which for AF is the flags (rules R24,
R25). -/
theorem State.setPair_joinBytes (s : State) (p : Pair) (hi lo : Byte) :
    s.setPair p (joinBytes hi lo) =
      match p with
      | .bc => (s.setReg .b hi).setReg .c lo
      | .de => (s.setReg .d hi).setReg .e lo
      | .hl => (s.setReg .h hi).setReg .l lo
      | .af => (s.setReg .a hi).setFlags (Flags.decode lo) := by
  cases p <;> simp only [State.setPair, hi8_joinBytes, lo8_joinBytes]

/-- The halves of a word as integers, written to H and L. -/
theorem State.setPair_hl_eq (s : State) (w : Word) :
    s.setPair .hl w = { s with
      regs := { s.regs with h := BitVec.ofNat 8 (w.toNat / 256), l := BitVec.ofNat 8 w.toNat } } := by
  rw [← hi8_eq_ofNat, ← lo8_eq_ofNat]
  rfl

/-- Rules R210 and R211 with the read served, at the HL before the step. -/
theorem loadAndStep_of_byte (d : HlStep) (h : s.bus.read (s.pair .hl) = .byte v bus) :
    loadAndStep d.delta s = .next { s with
      regs := { s.regs with
        a := v
        h := BitVec.ofNat 8 (d.nextNat (s.pair .hl).toNat / 256)
        l := BitVec.ofNat 8 (d.nextNat (s.pair .hl).toNat) }
      pc := s.pc + 1
      bus := bus } := by
  rw [loadAndStep, memRead_of_byte h, State.setPair_hl_eq, HlStep.toNat_add_delta]
  rfl

/-- Rules R212 and R213 with the write served, at the HL before the step. -/
theorem storeAndStep_of_done (d : HlStep) (h : s.bus.write (s.pair .hl) s.regs.a = .done bus) :
    storeAndStep d.delta s = .next { s with
      regs := { s.regs with
        h := BitVec.ofNat 8 (d.nextNat (s.pair .hl).toNat / 256)
        l := BitVec.ofNat 8 (d.nextNat (s.pair .hl).toNat) }
      pc := s.pc + 1
      bus := bus } := by
  rw [storeAndStep, memWrite_of_done (v := s.reg .a) h, State.setPair_hl_eq, HlStep.toNat_add_delta]
  rfl

theorem loadAndStep_of_fail (delta : Word) (h : s.bus.read (s.pair .hl) = .fail info bus) :
    loadAndStep delta s = .fault (.busFailure .read (s.pair .hl) none info bus) := by
  rw [loadAndStep, memRead_of_fail h]

theorem storeAndStep_of_fail (delta : Word) (h : s.bus.write (s.pair .hl) s.regs.a = .fail info bus) :
    storeAndStep delta s = .fault (.busFailure .write (s.pair .hl) (some s.regs.a) info bus) := by
  rw [storeAndStep, memWrite_of_fail (v := s.reg .a) h]
  rfl

end Sys2Proof.Machine

namespace Sys2Proof

open Machine

/-! ### The instructions -/

theorem encode_loadReg (r r' : Reg8) :
    encode (.loadReg r r') = [BitVec.ofNat 8 (0x40 + 8 * (Opd8.reg r).code + (Opd8.reg r').code)] := by
  cases r <;> cases r' <;> rfl

theorem encode_loadImm (r : Reg8) (v : Byte) :
    encode (.loadImm r v) = [BitVec.ofNat 8 (0x06 + 8 * (Opd8.reg r).code), v] := by
  cases r <;> rfl

theorem encode_loadWord (p : WordPair) (w : Word) :
    encode (.loadWord p w) = [BitVec.ofNat 8 (0x01 + 16 * p.code), lo8 w, hi8 w] := by
  cases p <;> rfl

theorem encode_loadFromHl (r : Reg8) : encode (.loadFromHl r) = [BitVec.ofNat 8 (0x46 + 8 * (Opd8.reg r).code)] := by
  cases r <;> rfl

theorem encode_storeToHl (r : Reg8) : encode (.storeToHl r) = [BitVec.ofNat 8 (0x70 + (Opd8.reg r).code)] := by
  cases r <;> rfl

theorem wellFormed_loadImm (r : Reg8) (v : Byte) : (Instr.loadImm r v).wellFormed = true := by
  cases r <;> rfl

theorem wellFormed_loadWord (p : WordPair) (w : Word) : (Instr.loadWord p w).wellFormed = true := by
  cases p <;> rfl

theorem wellFormed_loadA (m : MemOpd) : (Instr.loadA m).wellFormed = true := by
  cases m <;> rfl

theorem wellFormed_storeA (m : MemOpd) : (Instr.storeA m).wellFormed = true := by
  cases m <;> rfl

theorem exec_loadReg (r r' : Reg8) (s : State) : exec (.loadReg r r') s = loadReg r r' s := by
  cases r <;> cases r' <;> rfl

theorem exec_loadImm (r : Reg8) (v : Byte) (s : State) : exec (.loadImm r v) s = loadImm r v s := by
  cases r <;> rfl

theorem exec_loadWord (p : WordPair) (w : Word) (s : State) : exec (.loadWord p w) s = loadWord (wordPair p) w s := by
  cases p <;> rfl

theorem exec_loadFromHl (r : Reg8) (s : State) : exec (.loadFromHl r) s = loadFrom r (s.pair .hl) 1 s := by
  cases r <;> rfl

theorem exec_storeToHl (r : Reg8) (s : State) : exec (.storeToHl r) s = storeTo (s.pair .hl) (s.regs.get r) 1 s := by
  cases r <;> rfl

theorem exec_loadA (m : MemOpd) (s : State) : exec (.loadA m) s = loadFrom .a (m.addr s) m.len s := by
  cases m <;> rfl

theorem exec_storeA (m : MemOpd) (s : State) : exec (.storeA m) s = storeTo (m.addr s) s.regs.a m.len s := by
  cases m <;> rfl

theorem exec_loadAStep (d : HlStep) (s : State) : exec (.loadAStep d) s = loadAndStep d.delta s := by
  cases d <;> rfl

theorem exec_storeAStep (d : HlStep) (s : State) : exec (.storeAStep d) s = storeAndStep d.delta s := by
  cases d <;> rfl

/-- Settles O49: none of the three forms has an access of its own, and a joined word gives its halves back. -/
theorem registerAndImmediateLoads : Obligations.RegisterAndImmediateLoads := by
  unfold Obligations.RegisterAndImmediateLoads
  refine ⟨fun r r' => ⟨encode_loadReg r r', exec_loadReg r r'⟩, fun r v => ?_, fun p lo hi => ?_⟩
  · exact ⟨encode_loadImm r v, failsWithItsImmediateRead (wellFormed_loadImm r v), exec_loadImm r v⟩
  · simp only [ofNat_eq_joinBytes, encode_loadWord, lo8_joinBytes, hi8_joinBytes, exec_loadWord]
    refine ⟨trivial, failsWithItsImmediateRead (wellFormed_loadWord p _), fun s => ?_⟩
    rw [loadWord, State.setPair_joinBytes]
    cases p <;> rfl

/-- Settles O50: the one access is at the HL before the step. -/
theorem loadsAndStoresThroughHl : Obligations.LoadsAndStoresThroughHl := by
  unfold Obligations.LoadsAndStoresThroughHl
  simp only [FailsWithTheOperandRead, exec_loadFromHl, exec_storeToHl, ofNat_eq_joinBytes]
  refine ⟨fun r => ⟨encode_loadFromHl r, encode_storeToHl r, fun s info bus h => loadFrom_of_fail h r 1⟩,
    fun v => ⟨rfl, failsWithItsImmediateRead rfl⟩, fun r s bus v info => ?_⟩
  exact ⟨fun h => loadFrom_of_byte h r 1, fun h => storeTo_of_done h 1, fun h => storeTo_of_fail h 1,
    fun h => storeTo_of_done h 2, fun h => storeTo_of_fail h 2⟩

/-- Settles O51: each constructor is the one load or store of A at the address of its operand. -/
theorem accumulatorLoadsAndStores : Obligations.AccumulatorLoadsAndStores := by
  unfold Obligations.AccumulatorLoadsAndStores
  simp only [exec_loadA, exec_storeA, ← MemOpd.len_eq]
  refine ⟨fun w n => ⟨rfl, rfl, rfl, rfl, rfl, rfl, rfl, rfl, rfl, rfl⟩, fun m => ?_⟩
  refine ⟨failsWithItsImmediateRead (wellFormed_loadA m), failsWithItsImmediateRead (wellFormed_storeA m),
    fun s bus v info => ?_⟩
  exact ⟨fun h => loadFrom_of_byte h .a m.len, fun h => loadFrom_of_fail h .a m.len, fun h => storeTo_of_done h m.len,
    fun h => storeTo_of_fail h m.len⟩

/-- Settles O52: the access is at HL as it was, and HL is stepped as an integer modulo 65536. -/
theorem loadsAndStoresThatStepHl : Obligations.LoadsAndStoresThatStepHl := by
  unfold Obligations.LoadsAndStoresThatStepHl
  refine ⟨rfl, rfl, rfl, rfl, fun d s bus v info => ?_⟩
  simp only [exec_loadAStep, exec_storeAStep, ← toNat_joinBytes, BitVec.ofNat_toNat, BitVec.setWidth_eq]
  cases d with
  | inc => exact ⟨loadAndStep_of_byte .inc, loadAndStep_of_fail _, storeAndStep_of_done .inc, storeAndStep_of_fail _⟩
  | dec => exact ⟨loadAndStep_of_byte .dec, loadAndStep_of_fail _, storeAndStep_of_done .dec, storeAndStep_of_fail _⟩

end Sys2Proof
end

section
/-! The refusals (spec/40_sequencer.md rules R240, R241; spec/48_gk_ops.md rules R265 to R268) and the instructions that
never fail (spec/60_exceptions.md rule R302). -/

namespace Sys2Proof.Machine

variable {W : List Word} {s : State} {i : Instr} {b : Byte} {bus : Bus} {x : Result}

/-- Without an access the answer is a next state over the same bus. -/
theorem Issues.next_of_noAccess (h : Issues W 0 bus x) : ∃ t, x = .next t ∧ t.bus = bus := by
  cases h with
  | next h => exact ⟨_, rfl, h⟩

/-- A step at a tier-G byte under `GK_OPS = refuse`: its operand bytes are not fetched (rule R240). -/
theorem step_of_refusedByte (hs : s.status = .running) (hr : s.params.gkOps = .refuse) (ht : byteTier b = .g)
    (h : s.bus.read s.pc = .byte b bus) : step s = exec (decodeBase b 0 0) (s.setBus bus) :=
  (step_of_running hs).trans (fetch_of_refused h ht hr exec)

/-- A step at the byte of an instruction of one byte, outside tier G. -/
theorem step_of_oneByte (hi : i.wellFormed = true) (hg : i.tier ≠ .g) (he : encode i = [b]) (hs : s.status = .running)
    (h : s.bus.read s.pc = .byte b bus) : step s = exec i (s.setBus bus) :=
  step_of_readsBytes hs hi (absurd · hg) (he ▸ ⟨bus, h, rfl⟩)

end Sys2Proof.Machine

namespace Sys2Proof

open Machine

variable {i : Instr}

/-- The two rows with a check are not tier G. -/
theorem wellFormed_of_tierG (h : i.tier = .g) : i.wellFormed = true := by
  cases i with
  | undefined | prefixCB => cases h
  | _ => rfl

/-- Settles O19: each of the four is an instruction of one encoded byte, which its opcode fetch reads, and its meaning is
the refusal. -/
theorem tierXIsAlwaysRefused : Obligations.TierXIsAlwaysRefused := by
  unfold Obligations.TierXIsAlwaysRefused
  refine ⟨?_, fun s => ⟨rfl, rfl, rfl, rfl⟩, rfl, rfl, rfl, rfl⟩
  simp only [List.forall_mem_cons, List.not_mem_nil, false_imp_iff, implies_true, and_true]
  exact ⟨fun _ _ => step_of_oneByte (i := .halt) rfl nofun rfl, fun _ _ => step_of_oneByte (i := .stop) rfl nofun rfl,
    fun _ _ => step_of_oneByte (i := .ei) rfl nofun rfl, fun _ _ => step_of_oneByte (i := .reti) rfl nofun rfl⟩

/-- Settles O20: a refused byte is decoded without its operands, and its row names the mnemonic; an admitted instruction is
fetched by all of its bytes. -/
theorem tierGIsRefusedByDefault : Obligations.TierGIsRefusedByDefault := by
  unfold Obligations.TierGIsRefusedByDefault
  refine ⟨fun p hp s bus hs hr h => ?_, fun s i bus hs ha hg =>
    step_of_readsBytes hs (wellFormed_of_tierG hg) fun _ => ha⟩
  fin_cases hp <;> exact (step_of_refusedByte hs hr rfl h).trans (gated_of_refuse hr)

/-- Settles O30: an instruction that executes issues the accesses of its shape, here none. -/
theorem registerOnlyInstructionsNeverFail : Obligations.RegisterOnlyInstructionsNeverFail := by
  unfold Obligations.RegisterOnlyInstructionsNeverFail
  intro i s ha hn
  have hissues := exec_issues (.inl ha)
  rw [hn] at hissues
  exact hissues.next_of_noAccess

end Sys2Proof
end

section
/-! The accumulator operations on an immediate byte (spec/48_gk_ops.md rules R244 to R251), NOP and DI (rules R242, R264),
and DAA (rule R255) in integers, with the decimal sums and differences it corrects. -/

namespace Sys2Proof.Machine

/-! ### DAA in integers -/

/-- Whether DAA adjusts the tens digit of A = `a` (rule R255); the new carry. -/
def daaTens (a : Nat) (f : Flags) : Bool := f.c || (!f.n && decide (153 < a))

/-- Whether DAA adjusts the ones digit of A = `a` (rule R255). -/
def daaOnes (a : Nat) (f : Flags) : Bool := f.h || (!f.n && decide (9 < a % 16))

/-- What DAA adds to A = `a`, or takes off it after a subtraction (rule R255). -/
def daaAdjustment (a : Nat) (f : Flags) : Nat :=
  (if daaTens a f then 96 else 0) + (if daaOnes a f then 6 else 0)

/-- What DAA leaves in A, from A = `a` (rule R255). -/
def daaValue (a : Nat) (f : Flags) : Nat :=
  if f.n then (a + 256 - daaAdjustment a f) % 256 else (a + daaAdjustment a f) % 256

/-- A sum with each of the two adjustments or without it. -/
theorem toNat_adjustUp (x : Byte) (tens ones : Bool) :
    (if ones then (if tens then x + 0x60 else x) + 0x06 else if tens then x + 0x60 else x).toNat =
      (x.toNat + ((if tens then 96 else 0) + if ones then 6 else 0)) % 256 := by
  have hx : x.toNat < 256 := x.isLt
  cases tens <;> cases ones <;> simp [BitVec.toNat_add, Nat.add_assoc, Nat.mod_eq_of_lt hx]

/-- A difference with each of the two adjustments or without it. -/
theorem toNat_adjustDown (x : Byte) (tens ones : Bool) :
    (if ones then (if tens then x - 0x60 else x) - 0x06 else if tens then x - 0x60 else x).toNat =
      (x.toNat + 256 - ((if tens then 96 else 0) + if ones then 6 else 0)) % 256 := by
  have hx : x.toNat < 256 := x.isLt
  cases tens <;> cases ones <;> simp [BitVec.toNat_sub] <;> omega

/-- The adjustment of the tens digit leaves the ones digit, which the rule looks at after it. -/
theorem toNat_lowNibble_of_tens (x : Byte) (tens : Bool) :
    ((if tens then x + 0x60 else x) &&& 0x0F).toNat = x.toNat % 16 := by
  have htens : (if tens then x + 0x60 else x).toNat = (x.toNat + ((if tens then 96 else 0) + 0)) % 256 :=
    toNat_adjustUp x tens false
  rw [toNat_and_lowNibble, htens]
  split <;> omega

/-- A is looked at before the adjustments of an addition, and not at all after a subtraction (rule R255). -/
theorem toNat_daaOut_acc (x : Byte) (f : Flags) : (daaOut x f).acc.toNat = daaValue x.toNat f := by
  obtain ⟨z, n, h, c⟩ := f
  cases n with
  | true =>
    simp only [daaOut, daaValue, daaAdjustment, daaTens, daaOnes, Bool.not_true, Bool.false_and, Bool.or_false, if_true]
    exact toNat_adjustDown x c h
  | false =>
    simp only [daaOut, daaValue, daaAdjustment, daaTens, daaOnes, Bool.not_false, Bool.true_and,
      toNat_lowNibble_of_tens, Bool.false_eq_true, if_false]
    exact toNat_adjustUp x (c || decide (153 < x.toNat)) (h || decide (9 < x.toNat % 16))

theorem daaOut_eq (x : Byte) (f : Flags) :
    daaOut x f =
      ⟨BitVec.ofNat 8 (daaValue x.toNat f), ⟨daaValue x.toNat f == 0, f.n, false, daaTens x.toNat f⟩⟩ := by
  have hacc : (daaOut x f).acc.toNat = daaValue x.toNat f := toNat_daaOut_acc x f
  have hcarry : (daaOut x f).flags.c = daaTens x.toNat f := by
    obtain ⟨z, n, h, c⟩ := f
    cases c <;> simp [daaOut, daaTens]
  rw [← eq_ofNat_of_toNat_eq hacc, ← beq_zero_of_toNat_eq hacc, ← hcarry]
  rfl

/-- Rule R255 in integers. -/
theorem decimalAdjust_eq (s : State) :
    decimalAdjust s = .next { s with
      regs := { s.regs with a := BitVec.ofNat 8 (daaValue s.regs.a.toNat s.flags) }
      flags := ⟨daaValue s.regs.a.toNat s.flags == 0, s.flags.n, false, daaTens s.regs.a.toNat s.flags⟩
      pc := s.pc + 1 } := by
  rw [decimalAdjust, daaOut_eq]
  rfl

/-! ### Decimal operands -/

/-- The decimal byte of `m` as an integer. -/
def bcdNat (m : Nat) : Nat := 16 * (m / 10) + m % 10

theorem toNat_bcdByte {m : Nat} (hm : m < 100) : (bcdByte m).toNat = bcdNat m := by
  rw [bcdByte, BitVec.toNat_ofNat, bcdNat]
  omega

/-- The flags an addition of `x`, `y` and `cin` leaves to DAA (rules R244, R245). -/
def sumFlags (z : Bool) (x y cin : Nat) : Flags :=
  ⟨z, false, decide (15 < x % 16 + y % 16 + cin), decide (255 < x + y + cin)⟩

/-- The flags a subtraction of `y` and `cin` from `x` leaves to DAA (rules R246, R247). -/
def differenceFlags (z : Bool) (x y cin : Nat) : Flags :=
  ⟨z, true, decide (x % 16 < y % 16 + cin), decide (x < y + cin)⟩

variable {m k cin : Nat}

/-- After an addition the tens digit is adjusted where the decimal sum carries: from 154 on, whether or not the byte wraps … -/
theorem daaTens_add (hm : m < 100) (hk : k < 100) (hc : cin ≤ 1) (z : Bool) :
    daaTens ((bcdNat m + bcdNat k + cin) % 256) (sumFlags z (bcdNat m) (bcdNat k) cin) = decide (100 ≤ m + k + cin) := by
  have hsum : 153 < bcdNat m + bcdNat k + cin ↔ 100 ≤ m + k + cin := by
    unfold bcdNat
    omega
  have hlt : bcdNat m + bcdNat k + cin < 308 := by
    unfold bcdNat
    omega
  rw [Bool.eq_iff_iff]
  simp only [daaTens, sumFlags, Bool.or_eq_true, Bool.and_eq_true, Bool.not_false, true_and, decide_eq_true_eq]
  omega

/-- … and the ones digit where the sum of the ones digits carries. -/
theorem daaOnes_add (hc : cin ≤ 1) (z : Bool) :
    daaOnes ((bcdNat m + bcdNat k + cin) % 256) (sumFlags z (bcdNat m) (bcdNat k) cin) =
      decide (10 ≤ m % 10 + k % 10 + cin) := by
  rw [Bool.eq_iff_iff]
  simp only [daaOnes, sumFlags, Bool.or_eq_true, Bool.and_eq_true, Bool.not_false, true_and, decide_eq_true_eq]
  unfold bcdNat
  omega

theorem daaValue_add (hm : m < 100) (hk : k < 100) (hc : cin ≤ 1) (z : Bool) :
    daaValue ((bcdNat m + bcdNat k + cin) % 256) (sumFlags z (bcdNat m) (bcdNat k) cin) =
      bcdNat ((m + k + cin) % 100) := by
  rw [daaValue, daaAdjustment, daaTens_add hm hk hc z, daaOnes_add hc z]
  simp only [sumFlags, bcdNat, decide_eq_true_eq, Bool.false_eq_true, if_false]
  split_ifs <;> omega

/-- After a subtraction the tens digit is adjusted where the decimal difference borrows … -/
theorem daaTens_sub (hc : cin ≤ 1) (z : Bool) (a : Nat) :
    daaTens a (differenceFlags z (bcdNat m) (bcdNat k) cin) = decide (m < k + cin) := by
  rw [Bool.eq_iff_iff]
  simp only [daaTens, differenceFlags, Bool.not_true, Bool.false_and, Bool.or_false, decide_eq_true_eq]
  unfold bcdNat
  omega

/-- … and the ones digit where the difference of the ones digits borrows. -/
theorem daaOnes_sub (hc : cin ≤ 1) (z : Bool) (a : Nat) :
    daaOnes a (differenceFlags z (bcdNat m) (bcdNat k) cin) = decide (m % 10 < k % 10 + cin) := by
  rw [Bool.eq_iff_iff]
  simp only [daaOnes, differenceFlags, Bool.not_true, Bool.false_and, Bool.or_false, decide_eq_true_eq]
  unfold bcdNat
  omega

theorem daaValue_sub (hm : m < 100) (hk : k < 100) (hc : cin ≤ 1) (z : Bool) :
    daaValue ((bcdNat m + 256 - bcdNat k - cin) % 256) (differenceFlags z (bcdNat m) (bcdNat k) cin) =
      bcdNat ((m + 100 - k - cin) % 100) := by
  rw [daaValue, daaAdjustment, daaTens_sub hc z, daaOnes_sub hc z]
  simp only [differenceFlags, bcdNat, decide_eq_true_eq, if_true]
  split_ifs <;> omega

end Sys2Proof.Machine

namespace Sys2Proof

open Machine

/-! ### The instructions -/

variable {m k cin : Nat} {s t u : State} {z : Bool} {op : AluOp}

theorem encode_aluImm (op : AluOp) (v : Byte) :
    encode (.aluImm op v) = [BitVec.ofNat 8 (0xC6 + 8 * op.code), v] := by
  cases op <;> rfl

theorem wellFormed_aluImm (op : AluOp) (v : Byte) : (Instr.aluImm op v).wellFormed = true := by
  cases op <;> rfl

theorem exec_aluImm (ha : s.params.gkOps = .admitG) (op : AluOp) (v : Byte) :
    exec (.aluImm op v) s = aluApply op v 2 s := by
  cases op <;> exact gated_of_admit ha

theorem exec_daa (ha : s.params.gkOps = .admitG) : exec .daa s = decimalAdjust s := gated_of_admit ha

/-- DAA after a sum of decimal bytes leaves the decimal sum and its carry. -/
theorem exec_daa_of_sum (hm : m < 100) (hk : k < 100) (hc : cin ≤ 1) (hg : t.params.gkOps = .admitG)
    (ha : t.regs.a = BitVec.ofNat 8 ((bcdNat m + bcdNat k + cin) % 256))
    (hf : t.flags = sumFlags z (bcdNat m) (bcdNat k) cin) (h : exec .daa t = .next u) :
    u.regs.a = bcdByte ((m + k + cin) % 100) ∧ u.flags.c = decide (100 ≤ m + k + cin) := by
  have ha : t.regs.a.toNat = (bcdNat m + bcdNat k + cin) % 256 := by
    rw [ha, BitVec.toNat_ofNat, Nat.mod_mod]
  rw [exec_daa hg, decimalAdjust_eq, ha, hf, daaValue_add hm hk hc, daaTens_add hm hk hc] at h
  cases h
  exact ⟨rfl, rfl⟩

/-- DAA after a difference of decimal bytes leaves the decimal difference and its borrow. -/
theorem exec_daa_of_difference (hm : m < 100) (hk : k < 100) (hc : cin ≤ 1) (hg : t.params.gkOps = .admitG)
    (ha : t.regs.a = BitVec.ofNat 8 ((bcdNat m + 256 - bcdNat k - cin) % 256))
    (hf : t.flags = differenceFlags z (bcdNat m) (bcdNat k) cin) (h : exec .daa t = .next u) :
    u.regs.a = bcdByte ((m + 100 - k - cin) % 100) ∧ u.flags.c = decide (m < k + cin) := by
  have ha : t.regs.a.toNat = (bcdNat m + 256 - bcdNat k - cin) % 256 := by
    rw [ha, BitVec.toNat_ofNat, Nat.mod_mod]
  rw [exec_daa hg, decimalAdjust_eq, ha, hf, daaValue_sub hm hk hc, daaTens_sub hc] at h
  cases h
  exact ⟨rfl, rfl⟩

/-- What an accumulator operation on two decimal bytes hands to DAA. -/
theorem exec_aluImm_bcdByte (hm : m < 100) (hk : k < 100) (hg : s.params.gkOps = .admitG) (ha : s.regs.a = bcdByte m)
    (h : exec (.aluImm op (bcdByte k)) s = .next t) :
    t.params.gkOps = .admitG ∧ t.regs.a = BitVec.ofNat 8 (op.accLeft (bcdNat m) (bcdNat k) s.flags.c.toNat) ∧
      t.flags = op.flagsLeft (bcdNat m) (bcdNat k) s.flags.c.toNat := by
  rw [exec_aluImm hg, aluApply_eq, ha, toNat_bcdByte hm, toNat_bcdByte hk] at h
  cases h
  exact ⟨hg, rfl, rfl⟩

/-- Settles O39: an admitted operation on an immediate is the operation on that byte, and nothing else is written. -/
theorem accumulatorOperationsOnAnImmediate : Obligations.AccumulatorOperationsOnAnImmediate := by
  unfold Obligations.AccumulatorOperationsOnAnImmediate
  intro op v
  refine ⟨encode_aluImm op v, fun s ha => ?_, failsWithItsImmediateRead (wellFormed_aluImm op v)⟩
  rw [exec_aluImm ha, aluApply_eq]

/-- Settles O53: behind the open gate both are the step of PC alone. -/
theorem nopAndDiOnlyAdvance : Obligations.NopAndDiOnlyAdvance := by
  unfold Obligations.NopAndDiOnlyAdvance
  exact ⟨rfl, rfl, fun _ ha => ⟨gated_of_admit ha, gated_of_admit ha⟩⟩

/-- Settles O54: the adjustments of the two digits, one after the other, are one sum or difference in integers. -/
theorem decimalAdjust : Obligations.DecimalAdjust := by
  unfold Obligations.DecimalAdjust
  refine ⟨rfl, fun s ha => ?_⟩
  rw [exec_daa ha, decimalAdjust_eq]
  rfl

/-- Settles O55: the digits that DAA adjusts are those whose decimal sum or difference carries or borrows. -/
theorem decimalAdjustAfterAddAndSubtract : Obligations.DecimalAdjustAfterAddAndSubtract := by
  unfold Obligations.DecimalAdjustAfterAddAndSubtract
  intro m k s t u hm hk hg ha
  have hc : s.flags.c.toNat ≤ 1 := s.flags.c.toNat_le
  refine ⟨fun ht => ?_, fun ht => ?_, fun ht => ?_, fun ht => ?_⟩
  all_goals obtain ⟨hg, ha, hf⟩ := exec_aluImm_bcdByte hm hk hg ha ht
  · exact exec_daa_of_sum hm hk zero_le_one hg ha hf
  · exact exec_daa_of_sum hm hk hc hg ha hf
  · exact exec_daa_of_difference hm hk zero_le_one hg ha hf
  · exact exec_daa_of_difference hm hk hc hg ha hf

end Sys2Proof
end

section
/-! The stack and SP (spec/48_gk_ops.md rules R243, R252 to R254, R256 to R263): pushes and pops with each access served or
failing, calls and returns, SP as an operand, and the round trips on the flat RAM. -/

namespace Sys2Proof.Machine

variable {s : State} {w : Word} {lo hi : Byte} {info : Nat} {bus bus₁ bus₂ : Bus}

theorem word_sub_two (w : Word) : w - 2 = w - 1 - 1 := (BitVec.sub_sub w 1 1).symm

theorem word_add_two (w : Word) : w + 2 = w + 1 + 1 := (BitVec.add_assoc w 1 1).symm

/-! ### Pushes, calls and returns -/

/-- PUSH with both writes served (rule R252). -/
theorem pushPair_of_done (p : Pair) (h₁ : s.bus.write (s.sp - 1) (hi8 (s.pair p)) = .done bus₁)
    (h₂ : bus₁.write (s.sp - 1 - 1) (lo8 (s.pair p)) = .done bus₂) :
    pushPair p s = .next { s with sp := s.sp - 1 - 1, pc := s.pc + 1, bus := bus₂ } :=
  push16_of_done h₁ h₂

/-- A call with both writes served (rules R256, R258). -/
theorem callTo_of_done {ret : Word} (target : Word) (h₁ : s.bus.write (s.sp - 1) (hi8 ret) = .done bus₁)
    (h₂ : bus₁.write (s.sp - 1 - 1) (lo8 ret) = .done bus₂) :
    callTo target ret s = .next { s with sp := s.sp - 1 - 1, pc := target, bus := bus₂ } :=
  push16_of_done h₁ h₂

/-- RET with both reads served (rule R259). -/
theorem returnFrom_of_bytes (h₁ : s.bus.read s.sp = .byte lo bus₁) (h₂ : bus₁.read (s.sp + 1) = .byte hi bus₂) :
    returnFrom s = .next { s with pc := joinBytes hi lo, sp := s.sp + 1 + 1, bus := bus₂ } :=
  pop16_of_bytes h₁ h₂

theorem callIf_of_holds {cc : Cond} (h : condHolds s.flags cc = true) (target : Word) :
    callIf cc target s = callTo target (s.pc + 3) s := by
  simp [callIf, h]

theorem returnIf_of_holds {cc : Cond} (h : condHolds s.flags cc = true) : returnIf cc s = returnFrom s := by
  simp [returnIf, h]

/-! ### SP as an operand -/

theorem storeSp_of_done (h₁ : s.bus.write w (lo8 s.sp) = .done bus₁)
    (h₂ : bus₁.write (w + 1) (hi8 s.sp) = .done bus₂) :
    storeSp w s = .next { s with pc := s.pc + 3, bus := bus₂ } := by
  rw [storeSp, memWrite_of_done h₁]
  exact memWrite_of_done (s := s.setBus bus₁) h₂

theorem storeSp_fails_first (h : s.bus.write w (lo8 s.sp) = .fail info bus) :
    storeSp w s = .fault (.busFailure .write w (some (lo8 s.sp)) info bus) :=
  memWrite_of_fail h

theorem storeSp_fails_second (h₁ : s.bus.write w (lo8 s.sp) = .done bus₁)
    (h₂ : bus₁.write (w + 1) (hi8 s.sp) = .fail info bus₂) :
    storeSp w s = .fault (.busFailure .write (w + 1) (some (hi8 s.sp)) info bus₂) := by
  rw [storeSp, memWrite_of_done h₁]
  exact memWrite_of_fail (s := s.setBus bus₁) h₂

/-- A signed byte is added to a word as an integer modulo 65536. -/
theorem word_add_sext16 (w : Word) (e : Byte) : w + sext16 e = BitVec.ofInt 16 (w.toNat + e.toInt) := by
  rw [BitVec.ofInt_add, BitVec.ofInt_natCast, BitVec.ofNat_toNat, BitVec.setWidth_eq]
  rfl

/-- H and C come of the unsigned sum of the low bytes (rules R261, R262). -/
theorem spOffsetFlags_eq (sp : Word) (e : Byte) :
    spOffsetFlags sp e =
      ⟨false, false, decide (15 < sp.toNat % 16 + e.toNat % 16), decide (255 < sp.toNat % 256 + e.toNat)⟩ := by
  have hnibble : (sp &&& 0x0F).toNat = sp.toNat % 16 := Nat.and_two_pow_sub_one_eq_mod sp.toNat 4
  have hbyte : (sp &&& 0xFF).toNat = sp.toNat % 256 := Nat.and_two_pow_sub_one_eq_mod sp.toNat 8
  simp only [spOffsetFlags, hnibble, hbyte, toNat_and_lowNibble, gt_iff_lt]

/-! ### Round trips on the flat RAM -/

/-- The RAM with `w` pushed below `sp`. -/
def Bus.pushed (bus : Bus) (sp w : Word) : Bus := (bus.poke (sp - 1) (hi8 w)).poke (sp - 1 - 1) (lo8 w)

theorem push16_of_flat (hf : s.FlatRam) (w : Word) (k : State → Result) :
    push16 s w k = k ((s.setSp (s.sp - 1 - 1)).setBus (s.bus.pushed s.sp w)) :=
  push16_of_done (Bus.write_flat hf _ _) (Bus.write_flat (bus := s.bus.poke _ _) hf _ _)

theorem Bus.peek_pushed {sp : Word} (hw : Memory.wf bus.cells = true) (w : Word) :
    (bus.pushed sp w).peek (sp - 1 - 1) = lo8 w ∧ (bus.pushed sp w).peek (sp - 1) = hi8 w := by
  have hne : sp - 1 ≠ sp - 1 - 1 := by bv_omega
  refine ⟨Bus.peek_poke_same (Bus.poke_keeps_wf hw _ _) _ _, ?_⟩
  rw [Bus.pushed, Bus.peek_poke_ne _ hne, Bus.peek_poke_same hw]

/-- A pop gives the word pushed last, and SP as it was before the push. -/
theorem pop16_of_pushed {sp : Word} (hf : bus.FlatRam) (hw : Memory.wf bus.cells = true) (hsp : s.sp = sp - 1 - 1)
    (hbus : s.bus = bus.pushed sp w) (k : Word → State → Result) : pop16 s k = k w (s.setSp sp) := by
  have hf : s.bus.FlatRam := hbus ▸ hf
  obtain ⟨hlo, hhi⟩ := Bus.peek_pushed (sp := sp) hw w
  have hnext : s.sp + 1 = sp - 1 := by rw [hsp, BitVec.sub_add_cancel]
  have h₁ : s.bus.read s.sp = .byte (lo8 w) s.bus := by rw [Bus.read_flat hf, hsp, hbus, hlo]
  have h₂ : s.bus.read (s.sp + 1) = .byte (hi8 w) s.bus := by rw [Bus.read_flat hf, hnext, hbus, hhi]
  rw [pop16_of_bytes h₁ h₂, joinBytes_hi8_lo8, hnext, BitVec.sub_add_cancel]
  rfl

/-- Writing a pair what it reads as changes nothing. -/
theorem State.setPair_eq_self {p : Pair} (h : s.pair p = w) : s.setPair p w = s := by
  subst h
  cases p with
  | bc | de | hl => exact s.setPair_joinBytes _ _ _
  | af =>
    rw [State.pair, State.setPair_joinBytes, Flags.decode_encode]
    rfl

/-- A pair reads as the word written to it, AF without its low nibble (rules R24, R25). -/
theorem State.pair_setPair (s : State) (p : Pair) (w : Word) :
    (s.setPair p w).pair p = w &&& (if p = .af then 0xFFF0 else 0xFFFF) := by
  split
  case isTrue h =>
    subst h
    exact s.pair_setPair_af w
  case isFalse h => exact (s.pair_setPair_of_ne w h).trans BitVec.and_allOnes.symm

end Sys2Proof.Machine

namespace Sys2Proof

open Machine

/-! ### The instructions -/

variable {s : State} {i : Instr} {target len : Word}

theorem encode_pushPair (p : Pair) : encode (.pushPair p) = [BitVec.ofNat 8 (0xC5 + 16 * p.code)] := by
  cases p <;> rfl

theorem encode_popPair (p : Pair) : encode (.popPair p) = [BitVec.ofNat 8 (0xC1 + 16 * p.code)] := by
  cases p <;> rfl

theorem encode_callIf (cc : Cond) (w : Word) :
    encode (.callIf cc w) = [BitVec.ofNat 8 (0xC4 + 8 * cc.code), lo8 w, hi8 w] := by
  cases cc <;> rfl

theorem encode_restart (y : Fin 8) : encode (.restart y) = [BitVec.ofNat 8 (0xC7 + 8 * y.val)] := by
  fin_cases y <;> rfl

theorem encode_retIf (cc : Cond) : encode (.retIf cc) = [BitVec.ofNat 8 (0xC0 + 8 * cc.code)] := by
  cases cc <;> rfl

theorem wellFormed_callIf (cc : Cond) (w : Word) : (Instr.callIf cc w).wellFormed = true := by
  cases cc <;> rfl

section

variable (ha : s.params.gkOps = .admitG)

include ha

theorem exec_pushPair (p : Pair) : exec (.pushPair p) s = pushPair p s := by
  cases p <;> exact gated_of_admit ha

theorem exec_popPair (p : Pair) : exec (.popPair p) s = popPair p s := by
  cases p <;> exact gated_of_admit ha

theorem exec_call (w : Word) : exec (.call_a16 w) s = callTo w (s.pc + 3) s := gated_of_admit ha

theorem exec_callIf (cc : Cond) (w : Word) : exec (.callIf cc w) s = callIf cc w s := by
  cases cc <;> exact gated_of_admit ha

theorem exec_restart (y : Fin 8) : exec (.restart y) s = callTo (BitVec.ofNat 16 (8 * y.val)) (s.pc + 1) s := by
  fin_cases y <;> exact gated_of_admit ha

theorem exec_ret : exec .ret s = returnFrom s := gated_of_admit ha

theorem exec_retIf (cc : Cond) : exec (.retIf cc) s = returnIf cc s := by
  cases cc <;> exact gated_of_admit ha

/-- CALL, CALL cc where it is taken, and RST are one call, to the target and back to the next instruction. -/
theorem exec_eq_callTo
    (hi : (i = .call_a16 target ∧ len = 3) ∨ (∃ cc, i = .callIf cc target ∧ len = 3) ∨
      (∃ y : Fin 8, i = .restart y ∧ target = BitVec.ofNat 16 (8 * y.val) ∧ len = 1))
    (htaken : ∀ cc, i = .callIf cc target → condHolds s.flags cc = true) :
    exec i s = callTo target (s.pc + len) s := by
  rcases hi with ⟨rfl, rfl⟩ | ⟨cc, rfl, rfl⟩ | ⟨y, rfl, rfl, rfl⟩
  · exact exec_call ha target
  · rw [exec_callIf ha, callIf_of_holds (htaken cc rfl)]
  · exact exec_restart ha y

/-- RET, and RET cc where it is taken, are one return. -/
theorem exec_eq_returnFrom (hi : i = .ret ∨ ∃ cc, i = .retIf cc ∧ condHolds s.flags cc = true) :
    exec i s = returnFrom s := by
  rcases hi with rfl | ⟨cc, rfl, htaken⟩
  · exact exec_ret ha
  · rw [exec_retIf ha, returnIf_of_holds htaken]

end

/-- Settles O56: the two accesses of a push and of a pop, each served or failing. -/
theorem pushAndPop : Obligations.PushAndPop := by
  unfold Obligations.PushAndPop
  refine fun p => ⟨encode_pushPair p, encode_popPair p, fun s bus₁ bus₂ info lo hi ha => ?_⟩
  simp only [exec_pushPair ha, exec_popPair ha, word_sub_two, word_add_two]
  refine ⟨pushPair_of_done p, push16_fails_first, push16_fails_second, fun h₁ h₂ => ?_, pop16_fails_first,
    pop16_fails_second⟩
  rw [popPair, pop16_of_bytes h₁ h₂, State.setPair_joinBytes]
  cases p <;> rfl

/-- Settles O57: a call that is taken pushes the address of the next instruction, and one that is not only advances PC. -/
theorem callsAndRestarts : Obligations.CallsAndRestarts := by
  unfold Obligations.CallsAndRestarts
  refine ⟨fun cc w y => ⟨rfl, encode_callIf cc w, encode_restart y, failsWithItsImmediateRead rfl,
    failsWithItsImmediateRead (wellFormed_callIf cc w)⟩, fun i len target hi s bus₁ bus₂ info ha htaken => ?_,
    fun cc w s ha hnot => ?_⟩
  · simp only [exec_eq_callTo ha hi htaken, ← hi8_eq_ofNat, ← lo8_eq_ofNat, word_sub_two]
    exact ⟨callTo_of_done target, push16_fails_first, push16_fails_second⟩
  · rw [exec_callIf ha, callIf_of_not hnot]
    rfl

/-- Settles O58: a return that is taken goes to the word popped, and one that is not only advances PC. -/
theorem returns : Obligations.Returns := by
  unfold Obligations.Returns
  refine ⟨rfl, encode_retIf, fun i s bus₁ bus₂ info lo hi ha hi' => ?_, fun cc s ha hnot => ?_⟩
  · simp only [exec_eq_returnFrom ha hi', ofNat_eq_joinBytes, word_add_two]
    exact ⟨returnFrom_of_bytes, pop16_fails_first, pop16_fails_second⟩
  · rw [exec_retIf ha, returnIf_of_not hnot]
    rfl

/-- Settles O59: SP is stored low byte first, and moved by a signed byte in integers; the four forms without an access
are, behind the open gate, what they mean. -/
theorem stackPointerOperations : Obligations.StackPointerOperations := by
  unfold Obligations.StackPointerOperations
  refine ⟨fun w e => ⟨rfl, rfl, rfl, rfl, rfl, failsWithItsImmediateRead rfl, failsWithItsImmediateRead rfl,
    failsWithItsImmediateRead rfl, failsWithItsImmediateRead rfl⟩, fun s w e bus₁ bus₂ info ha => ?_⟩
  have hstore : exec (.ld_at_a16_SP w) s = storeSp w s := gated_of_admit ha
  simp only [hstore, ← hi8_eq_ofNat, ← lo8_eq_ofNat, ← word_add_sext16, ← spOffsetFlags_eq, ofNat_eq_joinBytes]
  exact ⟨storeSp_of_done, storeSp_fails_first, storeSp_fails_second, gated_of_admit ha, gated_of_admit ha,
    gated_of_admit ha, gated_of_admit ha⟩

/-- Settles O60: what is popped is the word pushed, with SP as it was before the push. -/
theorem stackRoundTrips : Obligations.StackRoundTrips := by
  unfold Obligations.StackRoundTrips
  intro s t u w back p q hw hf ha
  refine ⟨fun ht hu => ?_, fun ht hu => ?_⟩
  · have hat : t.params.gkOps = .admitG := (exec_keeps_params_status ht).1 ▸ ha
    rw [exec_popPair hat] at hu
    rw [exec_pushPair ha, pushPair, push16_of_flat hf] at ht
    cases ht
    rw [popPair, pop16_of_pushed hf hw rfl rfl] at hu
    cases hu
    refine ⟨State.setPair_sp .., (State.pair_setPc ..).trans (State.pair_setPair ..), ?_⟩
    rintro rfl
    rw [State.setPc_regs, State.setPc_flags, State.setPair_eq_self (by simp)]
    exact ⟨rfl, rfl⟩
  · have hat : t.params.gkOps = .admitG := (exec_keeps_params_status ht).1 ▸ ha
    rw [exec_ret (s := { t with pc := back }) hat] at hu
    rw [exec_call ha, callTo, push16_of_flat hf] at ht
    cases ht
    rw [returnFrom, pop16_of_pushed hf hw rfl rfl] at hu
    cases hu
    exact ⟨rfl, rfl, rfl, rfl⟩

end Sys2Proof
end
